-- ==== Sys2Proof/Word.lean ====
section
/-! DEFINITION. The bit vectors of the BitArith unit: the Word (spec R1), the 4-bit opcode (R14) and the
52-bit command word (R40). All are unsigned; bit `k` has weight `2^k` (R32). -/

namespace Sys2Proof

/-- R1: the only data type, a 24-bit vector read as an unsigned number. -/
abbrev Word := BitVec 24

/-- R14, R40: the 4-bit opcode field. -/
abbrev Opcode := BitVec 4

/-- R40: one command written as a 52-bit number, `{op[3:0], a[23:0], b[23:0]}`. -/
abbrev CommandWord := BitVec 52

end Sys2Proof
end

