-- ==== Sys2Proof/Config.lean ====
section
/-! DEFINITION. What the spec leaves free: the Words that `Y` and `R` hold after a faulted completion
(R76) and the latency parameters (R98). None has a body, so nothing can be proved of its values. -/

namespace Sys2Proof

/-- R76, U1: the `n`-th unspecified Word. A faulted completion draws two fresh ones, for `Y` and for `R`.
DESIGN CHOICE (log entry 4), safe: a claim about it holds for every value. -/
opaque Config.freeWord : Nat → Word

/-- How many clock edges beyond the first the latency of a command takes, before the bound. Free (R98). -/
opaque Config.extraEdges : Opcode → Word → Word → Nat

/-- The bound on `Config.extraEdges`. Free (R98). -/
opaque Config.extraEdgesMax : Nat

/-- R98: `LAT_MAX`, the bound on the latency. -/
def Config.latencyMax : Nat := 1 + Config.extraEdgesMax

/-- R98: `LAT(op, a, b)`, the edges from the accept edge (not counted) to the complete edge (counted): at
least 1 and at most `LAT_MAX`, otherwise free. The step does not read it (log entry 3): a schedule of edges
that keeps to it is one of those the step runs on. -/
def Config.latency (op : Opcode) (a b : Word) : Nat :=
  1 + min (Config.extraEdges op a b) Config.extraEdgesMax

end Sys2Proof
end

