-- ==== Sys2Proof/Machine/State.lean ====
section
/-! DEFINITION. The state of the BitArith unit: the nine registers and fields of spec/10_state.md section 1
(105 bits), and beside them what the model itself needs: the host's coming port samples, whether a reset has
happened, the counter of unspecified values and the never-cleared fault mark. -/

namespace Sys2Proof.Machine

/-- What the input ports of R19 show at one rising edge of `clk`, and whether at that edge the latency of the
command in flight has elapsed (R21, R98; read only while the block is busy). -/
structure Edge where
  /-- Port `rst`, synchronous reset (R19, R87). -/
  rst : Bool
  /-- Port `start`, a command is presented (R19, R20). -/
  start : Bool
  /-- Port `op` (R19). -/
  op : Opcode
  /-- Port `a` (R19). -/
  a : Word
  /-- Port `b` (R19). -/
  b : Word
  /-- Not a port: the latency of the command in flight has elapsed (R98; log entry 3, safe). -/
  elapsed : Bool
  deriving DecidableEq, Repr

/-- The causes of R73 by name; `Cause.code` gives their numbers. -/
inductive Cause where
  /-- `DivisionByZero`: DIV or MOD with divisor 0 (R74). -/
  | divisionByZero
  /-- `IllegalOp`: a reserved opcode (R75). -/
  | illegalOp
  deriving DecidableEq, Repr

/-- R43: the outcome `Exec` gives a command. -/
inductive Result where
  /-- `Ok(y, r)`. -/
  | ok (y r : Word)
  /-- `Fault(c)`: a faulted completion follows (R76), which is a next state. -/
  | fault (c : Cause)
  deriving DecidableEq, Repr

/-- The four steps of 10_state.md section 8, and the edge the spec gives no step for. -/
inductive StepKind where
  /-- R23. -/
  | reset
  /-- R20. -/
  | accept
  /-- R21. -/
  | complete
  /-- R22. -/
  | idle
  /-- R89: an edge without `rst` before the first reset after power-on. -/
  | notYetReset
  deriving DecidableEq, Repr

/-- What stops the machine with a fault: nothing does. The block's own two faults are ways a command
completes (R73, R76) and do not stop it (R77), so they are next states. Safe (log entry 7). -/
inductive Fault where
  deriving DecidableEq, Repr

/-- Why a step has no meaning. -/
inductive Refusal where
  /-- An instruction without a meaning. No arm of `exec` raises it. Safe. -/
  | notModelled (mnemonic : String)
  /-- R89, U9: a clock edge with `rst = 0` before the first reset after power-on, of which no rule of the spec
  holds. Raised by `step` alone, never by an instruction. Safe (log entry 6). -/
  | beforeFirstReset
  deriving DecidableEq, Repr

/-- The machine's state. The first nine fields are the spec's, in the order of its tuple
`(OP, A, B, Y, R, busy, done, err, cause)`; the last four are the model's own. -/
structure State where
  /-- `OP`, the opcode register (R14). -/
  op : Opcode
  /-- `A`, the first operand register (R10). -/
  a : Word
  /-- `B`, the second operand register (R10). -/
  b : Word
  /-- `Y`, the primary result register (R12). -/
  y : Word
  /-- `R`, the remainder result register (R13). -/
  r : Word
  /-- `ST.busy` (R15). -/
  busy : Bool
  /-- `ST.done` (R15). -/
  done : Bool
  /-- `ST.err` (R15). -/
  err : Bool
  /-- `ST.cause` (R15). -/
  cause : BitVec 2
  /-- The model's: the coming rising edges of `clk`, the next one first (log entries 1 to 3). -/
  edges : List Edge
  /-- The model's: a reset edge has happened since power-on (R89; log entry 6). -/
  wasReset : Bool
  /-- The model's: how many unspecified Words have been drawn (R76; log entry 4). -/
  draws : Nat
  /-- The model's: some command has faulted; never cleared (U3; log entry 5). -/
  faultMark : Bool
  deriving DecidableEq, Repr

/-- R23: the state right after the first reset, with no edge presented yet. -/
def State.reset : State where
  op := 0
  a := 0
  b := 0
  y := 0
  r := 0
  busy := false
  done := false
  err := false
  cause := 0
  edges := []
  wasReset := true
  draws := 0
  faultMark := false

end Sys2Proof.Machine
end

