-- ==== Sys2Proof/Machine/Flags.lean ====
section
/-! DEFINITION. The status register `ST` (R15): its packing, its cause codes (R73) and the three ways the steps
write it. These are the block's only flags; no operation sets a carry, overflow, zero or sign flag (R15). -/

namespace Sys2Proof.Machine

/-- R73: the number of a cause; 0 is none and 3 is never produced. -/
def Cause.code : Cause → BitVec 2
  | .divisionByZero => 1
  | .illegalOp => 2

/-- R15: `ST` as five bits, `busy` in bit 0, `done` in bit 1, `err` in bit 2, `cause` in bits 4:3. -/
def State.st (s : State) : BitVec 5 :=
  s.cause ++ BitVec.ofBool s.err ++ BitVec.ofBool s.done ++ BitVec.ofBool s.busy

/-- R20: the status while a command is in flight. -/
def State.markAccepted (s : State) : State :=
  { s with busy := true, done := false, err := false, cause := 0 }

/-- R21: the status after a completion without fault. -/
def State.markSucceeded (s : State) : State :=
  { s with busy := false, done := true, err := false, cause := 0 }

/-- R76: the status after a faulted completion; the model's own fault mark is set with it (U3). -/
def State.markFaulted (c : Cause) (s : State) : State :=
  { s with busy := false, done := true, err := true, cause := c.code, faultMark := true }

end Sys2Proof.Machine
end

