-- ==== Sys2Proof/Syntax.lean ====
section
/-! DEFINITION. The commands of the operation set: one constructor per row of spec/opcode_table.json, nine
operations (R2, R42) and seven reserved opcodes (R45). Every command carries both operand fields (R40). -/

namespace Sys2Proof

/-- One command. `a` and `b` are the two operand fields of the command word, taken whole (R41). -/
inductive Instr where
  /-- `MUL`, opcode 0x1 (R50). -/
  | mul (a b : Word)
  /-- `DIV`, opcode 0x2 (R54): `a` the dividend, `b` the divisor. -/
  | div (a b : Word)
  /-- `MOD`, opcode 0x3 (R55): `a` the dividend, `b` the divisor. -/
  | mod (a b : Word)
  /-- `AND`, opcode 0x4 (R62). -/
  | and (a b : Word)
  /-- `OR`, opcode 0x5 (R63). -/
  | or (a b : Word)
  /-- `XOR`, opcode 0x6 (R64). -/
  | xor (a b : Word)
  /-- `NOT`, opcode 0x7 (R65): `b` is ignored but latched like any other (R44). -/
  | not (a b : Word)
  /-- `SHL`, opcode 0x8 (R68): `b` is the shift amount (R67). -/
  | shl (a b : Word)
  /-- `SHR`, opcode 0x9 (R70): `b` is the shift amount (R67). -/
  | shr (a b : Word)
  /-- Reserved opcode 0x0 (R45). -/
  | reserved0 (a b : Word)
  /-- Reserved opcode 0xA (R45). -/
  | reservedA (a b : Word)
  /-- Reserved opcode 0xB (R45). -/
  | reservedB (a b : Word)
  /-- Reserved opcode 0xC (R45). -/
  | reservedC (a b : Word)
  /-- Reserved opcode 0xD (R45). -/
  | reservedD (a b : Word)
  /-- Reserved opcode 0xE (R45). -/
  | reservedE (a b : Word)
  /-- Reserved opcode 0xF (R45). -/
  | reservedF (a b : Word)
  deriving DecidableEq, Repr

end Sys2Proof
end

