-- ==== Sys2Proof/WellFormed.lean ====
section
/-! DEFINITION. The ranges a command's fields must keep to (R1, R40, R47), as checks on plain numbers. An
`Instr` holds bit vectors, so it keeps to them by its type; the checks are for numbers that come from outside
(an opcode-table word, an assembler literal). -/

namespace Sys2Proof

/-- R1, R47: a number is a Word when it lies in `0 .. 16777215`. -/
def wordFits (n : Nat) : Bool := n < 2 ^ 24

/-- R40: a number is an opcode when it has four bits. -/
def opcodeFits (n : Nat) : Bool := n < 2 ^ 4

/-- R40: a triple of numbers is a command when each field fits its port. -/
def commandFits (op a b : Nat) : Bool := opcodeFits op && wordFits a && wordFits b

/-- R40: a number is a command word when it has 52 bits; there is no second length. -/
def commandWordFits (n : Nat) : Bool := n < 2 ^ 52

end Sys2Proof
end

