-- ==== Sys2Proof/Decode.lean ====
section
/-! DEFINITION. Decoding and encoding of commands, from the field table of R40 and the opcode map of R42 and
R45. A decoder needs only the four bits of `op` (R46), so every 52-bit command word decodes. -/

namespace Sys2Proof

/-- R40: bits 51:48 of the command word. -/
def opField (w : CommandWord) : Opcode := w.extractLsb' 48 4

/-- R40: bits 47:24 of the command word. -/
def aField (w : CommandWord) : Word := w.extractLsb' 24 24

/-- R40: bits 23:0 of the command word. -/
def bField (w : CommandWord) : Word := w.extractLsb' 0 24

/-- R40: the command word `{op, a, b}`. -/
def commandWord (op : Opcode) (a b : Word) : CommandWord := op ++ a ++ b

/-- R42, R45: the command an opcode and two operands stand for. -/
def decodeFields (op : Opcode) (a b : Word) : Instr :=
  match op.toNat with
  | 1 => .mul a b
  | 2 => .div a b
  | 3 => .mod a b
  | 4 => .and a b
  | 5 => .or a b
  | 6 => .xor a b
  | 7 => .not a b
  | 8 => .shl a b
  | 9 => .shr a b
  | 10 => .reservedA a b
  | 11 => .reservedB a b
  | 12 => .reservedC a b
  | 13 => .reservedD a b
  | 14 => .reservedE a b
  | 15 => .reservedF a b
  | _ => .reserved0 a b

/-- R40, R46: decoding is total on command words. -/
def decode (w : CommandWord) : Instr := decodeFields (opField w) (aField w) (bField w)

/-- Why a number is no command word. -/
inductive DecodeError where
  /-- The number has a bit above bit 51 (R40: one format, of one length). Raised by `decodeNat`. -/
  | tooWide
  deriving DecidableEq, Repr

/-- Decoding of any number: a number wider than the one format is rejected by name (R40). -/
def decodeNat (n : Nat) : Except DecodeError Instr :=
  if commandWordFits n then .ok (decode (BitVec.ofNat 52 n)) else .error .tooWide

/-- The opcode of a command (R42, R45). -/
def Instr.opcode : Instr → Opcode
  | .mul _ _ => 0x1
  | .div _ _ => 0x2
  | .mod _ _ => 0x3
  | .and _ _ => 0x4
  | .or _ _ => 0x5
  | .xor _ _ => 0x6
  | .not _ _ => 0x7
  | .shl _ _ => 0x8
  | .shr _ _ => 0x9
  | .reserved0 _ _ => 0x0
  | .reservedA _ _ => 0xA
  | .reservedB _ _ => 0xB
  | .reservedC _ _ => 0xC
  | .reservedD _ _ => 0xD
  | .reservedE _ _ => 0xE
  | .reservedF _ _ => 0xF

/-- The first operand field of a command (R40). -/
def Instr.opA : Instr → Word
  | .mul a _ | .div a _ | .mod a _ | .and a _ | .or a _ | .xor a _ | .not a _ | .shl a _ | .shr a _ => a
  | .reserved0 a _ | .reservedA a _ | .reservedB a _ | .reservedC a _ | .reservedD a _ => a
  | .reservedE a _ | .reservedF a _ => a

/-- The second operand field of a command (R40). -/
def Instr.opB : Instr → Word
  | .mul _ b | .div _ b | .mod _ b | .and _ b | .or _ b | .xor _ b | .not _ b | .shl _ b | .shr _ b => b
  | .reserved0 _ b | .reservedA _ b | .reservedB _ b | .reservedC _ b | .reservedD _ b => b
  | .reservedE _ b | .reservedF _ b => b

/-- R40: the command word of a command. -/
def encode (i : Instr) : CommandWord := commandWord i.opcode i.opA i.opB

/-- A command is well formed when its three fields fit their ports (R40, R46). -/
def Instr.wellFormed (i : Instr) : Bool := commandFits i.opcode.toNat i.opA.toNat i.opB.toNat

/-- The command the decoder reads from an opcode-table word. The command word is one number (R32: it is never
laid out in bytes), numbered as the table numbers it, bit 0 the least significant, so `nbits` adds nothing. -/
def decodeTableWord (_nbits w : Nat) : Option Instr := (decodeNat w).toOption

end Sys2Proof
end

