-- ==== Sys2Proof/Machine/Operands.lean ====
section
/-! DEFINITION. How operands enter the block and results leave it: the latched command, the forms an operand is
read in (R41), the output ports (R19, R24) and when a host may use them (R26, R95). -/

namespace Sys2Proof.Machine

/-- R40: the latched command `(OP, A, B)` as one command word. -/
def State.latched (s : State) : CommandWord := commandWord s.op s.a s.b

/-- R67: the shift amount is the whole of operand `b`, no bit ignored or masked. -/
def shiftAmount (b : Word) : Nat := b.toNat

/-- R74: the divisor test. -/
def divisorIsZero (b : Word) : Bool := b.toNat == 0

/-- The six output ports of R19. -/
structure Outputs where
  /-- Port `busy`. -/
  busy : Bool
  /-- Port `done`. -/
  done : Bool
  /-- Port `err`. -/
  err : Bool
  /-- Port `cause`. -/
  cause : BitVec 2
  /-- Port `y`. -/
  y : Word
  /-- Port `r`. -/
  r : Word
  deriving DecidableEq, Repr

/-- R24: the output ports are combinational copies of registers. -/
def State.outputs (s : State) : Outputs where
  busy := s.busy
  done := s.done
  err := s.err
  cause := s.cause
  y := s.y
  r := s.r

/-- R26, R95: what a host may use of `y` and `r`: both, while `done = 1` and `err = 0`, and otherwise nothing. -/
def Outputs.results (o : Outputs) : Option (Word × Word) :=
  if o.done && !o.err then some (o.y, o.r) else none

end Sys2Proof.Machine
end

