-- ==== Sys2Proof/Machine/Ops.lean ====
section
/-! DEFINITION. The shared operations of the step: the coming clock edge, which of the four steps it makes
(10_state.md section 8), reset (R23), accept (R20), and complete (R21) with the faulted completion (R76), which
is the block's way of taking an exception. There is no return from one (R80): the next accept clears it. -/

namespace Sys2Proof.Machine

/-- The edge past the end of the host's list: the host presents nothing and a latency has elapsed.
DESIGN CHOICE (log entry 2), unsafe for a claim that reads past the list. -/
def Edge.quiet : Edge :=
  { rst := false, start := false, op := 0, a := 0, b := 0, elapsed := true }

/-- The host presents command `i` with `start = 1` (R20). -/
def Edge.issue (i : Instr) : Edge :=
  { rst := false, start := true, op := i.opcode, a := i.opA, b := i.opB, elapsed := true }

/-- The host presents nothing and the latency has not elapsed (R22). -/
def Edge.wait : Edge := { Edge.quiet with elapsed := false }

/-- The host resets the block (R87). -/
def Edge.resetting : Edge := { Edge.quiet with rst := true }

/-- The host presents one command and waits for it, the latency being `n + 1` edges (R20, R98). -/
def Edge.transaction (i : Instr) (n : Nat) : List Edge :=
  Edge.issue i :: (List.replicate n Edge.wait ++ [Edge.quiet])

/-- R16: a program is a finite list of commands that the host issues one after another, each after the one
before has completed. Each comes with the number of edges it makes the host wait (log entry 9). -/
def Edge.program (cmds : List (Instr × Nat)) : List Edge :=
  cmds.flatMap (fun c => Edge.transaction c.1 c.2)

/-- What the ports show at the next rising edge. -/
def State.nextEdge (s : State) : Edge := s.edges.headD Edge.quiet

/-- The edge passes. -/
def State.clockEdge (s : State) : State := { s with edges := s.edges.tail }

/-- R20 to R23, R78: which step happens at the next edge; `rst` beats everything and a busy block does not
look at `start`. Before the first reset only `rst` has a step (R89). -/
def State.stepKind (s : State) : StepKind :=
  if s.nextEdge.rst then .reset
  else if !s.wasReset then .notYetReset
  else if s.busy then (if s.nextEdge.elapsed then .complete else .idle)
  else if s.nextEdge.start then .accept
  else .idle

/-- R23, R87: the reset step, from whatever state. -/
def State.resetStep (s : State) : State :=
  { s with op := 0, a := 0, b := 0, y := 0, r := 0, busy := false, done := false, err := false, cause := 0,
           wasReset := true }

/-- R20: the accept step latches the command on the ports; `Y` and `R` keep their bits. -/
def State.acceptStep (p : Edge) (s : State) : State :=
  { s with op := p.op, a := p.a, b := p.b }.markAccepted

/-- R21: a completion without fault writes both result registers. -/
def State.succeed (y r : Word) (s : State) : State :=
  { s with y := y, r := r }.markSucceeded

/-- R76: a faulted completion. `Y` and `R` become unspecified Words, two fresh free values, and the status
reports the cause; `OP`, `A`, `B` are unchanged and nothing else happens. -/
def State.takeFault (c : Cause) (s : State) : State :=
  { s with y := Config.freeWord s.draws, r := Config.freeWord (s.draws + 1), draws := s.draws + 2 }.markFaulted c

/-- R21: the complete step, given the outcome of `Exec`. -/
def State.complete (o : Result) (s : State) : State :=
  match o with
  | .ok y r => s.succeed y r
  | .fault c => s.takeFault c

/-- The state in which the command with word `w` has been accepted and is due at the very next edge: it is
latched as R20 says, and the next edge is one without `rst` at which the latency has elapsed (log entry 9). -/
def State.withCommandDue (w : CommandWord) (s : State) : State :=
  { s with op := opField w, a := aField w, b := bField w, edges := Edge.quiet :: s.edges, wasReset := true }.markAccepted

end Sys2Proof.Machine
end

