-- ==== Sys2Proof/Machine/Divide.lean ====
section
/-! DEFINITION. The divide family: DIV (R54) and MOD (R55), with the test of the divisor first (R57, R74). -/

namespace Sys2Proof.Machine

/-- R54: the quotient, for `b ≠ 0`. -/
def quotient (a b : Word) : Word := BitVec.ofNat 24 (a.toNat / b.toNat)

/-- R54, R55: the remainder, for `b ≠ 0`. -/
def remainder (a b : Word) : Word := BitVec.ofNat 24 (a.toNat % b.toNat)

/-- R43, R54: the quotient goes to `Y`, the remainder to `R`; a zero divisor faults. -/
def divResult (a b : Word) : Result :=
  if divisorIsZero b then .fault .divisionByZero else .ok (quotient a b) (remainder a b)

/-- R43, R55: the remainder goes to both `Y` and `R`; a zero divisor faults. -/
def modResult (a b : Word) : Result :=
  if divisorIsZero b then .fault .divisionByZero else .ok (remainder a b) (remainder a b)

/-- DIV (R54). -/
def execDiv (a b : Word) (s : State) : Host.Outcome State Fault Refusal :=
  .next (s.complete (divResult a b))

/-- MOD (R55). -/
def execMod (a b : Word) (s : State) : Host.Outcome State Fault Refusal :=
  .next (s.complete (modResult a b))

end Sys2Proof.Machine
end

