-- ==== Sys2Proof/Machine/Logic.lean ====
section
/-! DEFINITION. The logic family: AND (R62), OR (R63), XOR (R64), NOT (R65), each bit by bit. -/

namespace Sys2Proof.Machine

/-- R43, R62. -/
def andResult (a b : Word) : Result := .ok (a &&& b) 0

/-- R43, R63. -/
def orResult (a b : Word) : Result := .ok (a ||| b) 0

/-- R43, R64. -/
def xorResult (a b : Word) : Result := .ok (a ^^^ b) 0

/-- R43, R65: the 24-bit complement of `a`. -/
def notResult (a : Word) : Result := .ok (~~~a) 0

/-- AND (R62). -/
def execAnd (a b : Word) (s : State) : Host.Outcome State Fault Refusal :=
  .next (s.complete (andResult a b))

/-- OR (R63). -/
def execOr (a b : Word) (s : State) : Host.Outcome State Fault Refusal :=
  .next (s.complete (orResult a b))

/-- XOR (R64). -/
def execXor (a b : Word) (s : State) : Host.Outcome State Fault Refusal :=
  .next (s.complete (xorResult a b))

/-- NOT (R65): the second operand is ignored (R44). -/
def execNot (a _b : Word) (s : State) : Host.Outcome State Fault Refusal :=
  .next (s.complete (notResult a))

end Sys2Proof.Machine
end

