-- ==== Sys2Proof/Machine/Multiply.lean ====
section
/-! DEFINITION. The multiply family: MUL (R50). -/

namespace Sys2Proof.Machine

/-- R50: the low 24 bits of the product. -/
def mulWord (a b : Word) : Word := BitVec.ofNat 24 (a.toNat * b.toNat)

/-- R43, R50: `Ok(MUL(a, b), 0)`. -/
def mulResult (a b : Word) : Result := .ok (mulWord a b) 0

/-- MUL (R50). -/
def execMul (a b : Word) (s : State) : Host.Outcome State Fault Refusal :=
  .next (s.complete (mulResult a b))

end Sys2Proof.Machine
end

