-- ==== Sys2Proof/Machine/Reserved.lean ====
section
/-! DEFINITION. The seven reserved opcodes (R45): each completes as a faulted completion with cause
`IllegalOp`, whatever its operands are (R75). That completion is a next state, not a stop (R77). -/

namespace Sys2Proof.Machine

/-- R43, R75: the outcome of a reserved opcode. -/
def reservedResult : Result := .fault .illegalOp

/-- Reserved opcode 0x0 (R45, R75). -/
def execReserved0 (_a _b : Word) (s : State) : Host.Outcome State Fault Refusal :=
  .next (s.complete reservedResult)

/-- Reserved opcode 0xA (R45, R75). -/
def execReservedA (_a _b : Word) (s : State) : Host.Outcome State Fault Refusal :=
  .next (s.complete reservedResult)

/-- Reserved opcode 0xB (R45, R75). -/
def execReservedB (_a _b : Word) (s : State) : Host.Outcome State Fault Refusal :=
  .next (s.complete reservedResult)

/-- Reserved opcode 0xC (R45, R75). -/
def execReservedC (_a _b : Word) (s : State) : Host.Outcome State Fault Refusal :=
  .next (s.complete reservedResult)

/-- Reserved opcode 0xD (R45, R75). -/
def execReservedD (_a _b : Word) (s : State) : Host.Outcome State Fault Refusal :=
  .next (s.complete reservedResult)

/-- Reserved opcode 0xE (R45, R75). -/
def execReservedE (_a _b : Word) (s : State) : Host.Outcome State Fault Refusal :=
  .next (s.complete reservedResult)

/-- Reserved opcode 0xF (R45, R75). -/
def execReservedF (_a _b : Word) (s : State) : Host.Outcome State Fault Refusal :=
  .next (s.complete reservedResult)

end Sys2Proof.Machine
end

