-- ==== Sys2Proof/Machine/Shift.lean ====
section
/-! DEFINITION. The shift family: SHL (R68) and SHR (R70), logical, by the whole of operand `b` (R67). -/

namespace Sys2Proof.Machine

/-- R68: the word shifted left; 0 for an amount of 24 or more. -/
def shiftLeft (a : Word) (s : Nat) : Word :=
  if 24 ≤ s then 0 else BitVec.ofNat 24 (a.toNat * 2 ^ s)

/-- R70: the word shifted right, zero-filled; 0 for an amount of 24 or more. -/
def shiftRight (a : Word) (s : Nat) : Word :=
  if 24 ≤ s then 0 else BitVec.ofNat 24 (a.toNat / 2 ^ s)

/-- R43, R68. -/
def shlResult (a b : Word) : Result := .ok (shiftLeft a (shiftAmount b)) 0

/-- R43, R70. -/
def shrResult (a b : Word) : Result := .ok (shiftRight a (shiftAmount b)) 0

/-- SHL (R68). -/
def execShl (a b : Word) (s : State) : Host.Outcome State Fault Refusal :=
  .next (s.complete (shlResult a b))

/-- SHR (R70). -/
def execShr (a b : Word) (s : State) : Host.Outcome State Fault Refusal :=
  .next (s.complete (shrResult a b))

end Sys2Proof.Machine
end

