-- ==== Sys2Proof/Machine/Dispatch.lean ====
section
/-! DEFINITION. The dispatch of R43: one arm per command, each one direct call of its meaning. -/

namespace Sys2Proof.Machine

def exec (i : Instr) (s : State) : Host.Outcome State Fault Refusal :=
  match i with
  | .mul a b => Sys2Proof.Machine.execMul a b s
  | .div a b => Sys2Proof.Machine.execDiv a b s
  | .mod a b => Sys2Proof.Machine.execMod a b s
  | .and a b => Sys2Proof.Machine.execAnd a b s
  | .or a b => Sys2Proof.Machine.execOr a b s
  | .xor a b => Sys2Proof.Machine.execXor a b s
  | .not a b => Sys2Proof.Machine.execNot a b s
  | .shl a b => Sys2Proof.Machine.execShl a b s
  | .shr a b => Sys2Proof.Machine.execShr a b s
  | .reserved0 a b => Sys2Proof.Machine.execReserved0 a b s
  | .reservedA a b => Sys2Proof.Machine.execReservedA a b s
  | .reservedB a b => Sys2Proof.Machine.execReservedB a b s
  | .reservedC a b => Sys2Proof.Machine.execReservedC a b s
  | .reservedD a b => Sys2Proof.Machine.execReservedD a b s
  | .reservedE a b => Sys2Proof.Machine.execReservedE a b s
  | .reservedF a b => Sys2Proof.Machine.execReservedF a b s

end Sys2Proof.Machine
end

