-- ==== Sys2Proof/Machine/Step.lean ====
section
/-! DEFINITION. One step: one rising edge of `clk`, at which exactly one of the four steps of 10_state.md section
8 happens. The block fetches nothing (R16, R38): what runs is the latched command, at its complete step. -/

namespace Sys2Proof.Machine

/-- One rising edge of `clk` (R20 to R23). An edge without `rst` before the first reset is refused by name, since
no rule of the spec holds there (R89). -/
def step (s : State) : Host.Outcome State Fault Refusal :=
  match s.stepKind with
  | .reset => .next s.clockEdge.resetStep
  | .accept => .next (s.clockEdge.acceptStep s.nextEdge)
  | .complete => exec (decode s.latched) s.clockEdge
  | .idle => .next s.clockEdge
  | .notYetReset => .refused .beforeFirstReset

/-- `s` with the command word `w` accepted and due at the very next edge (log entry 9). -/
def State.withFetchWord (s : State) (_nbits w : Nat) : State := s.withCommandDue (BitVec.ofNat 52 w)

end Sys2Proof.Machine
end

