-- ==== Sys2Proof/Machine/Asm.lean ====
section
/-! DEFINITION. The assembler notation of R47 and R48, from one line of text to a command. It is notation: the
block receives only the resulting fields (R40). The spec leaves white space, the case of hexadecimal digits and
blank lines open; log entry 11 says what is taken here. -/

namespace Sys2Proof.Machine

/-- Why a line is no command; each is an assembly error of R47, reported by `assemble`. -/
inductive AsmError where
  /-- The first word is neither a mnemonic nor an alias of R47; there is no pseudo-instruction (R48). -/
  | unknownMnemonic
  /-- Not the number of operands the operation has. -/
  | operandCount
  /-- An operand that is no literal. -/
  | badLiteral
  /-- A literal outside `0 .. 16777215`: an error, not a truncation. -/
  | outOfRange
  /-- `%y` or `%r` where no previous command completed without fault. -/
  | noPreviousResult
  deriving DecidableEq, Repr

/-- R47: the mnemonics and their aliases, with the opcodes of R42. -/
def asmNames : List (String × Opcode) :=
  [("MUL", 0x1), ("multiply", 0x1), ("DIV", 0x2), ("divide", 0x2), ("MOD", 0x3), ("modulo", 0x3),
   ("AND", 0x4), ("bitwise_and", 0x4), ("OR", 0x5), ("bitwise_or", 0x5)] ++
  [("XOR", 0x6), ("bitwise_xor", 0x6), ("NOT", 0x7), ("bitwise_not", 0x7),
   ("SHL", 0x8), ("shift_left", 0x8), ("SHR", 0x9), ("shift_right", 0x9)]

/-- The opcode a name stands for. -/
def opcodeOfName (name : List Char) : Option Opcode :=
  (asmNames.find? (fun p => p.1.toList == name)).map Prod.snd

/-- The value of one digit; hexadecimal letters of either case. -/
def digitValue (c : Char) : Option Nat :=
  if '0' ≤ c ∧ c ≤ '9' then some (c.toNat - '0'.toNat)
  else if 'a' ≤ c ∧ c ≤ 'f' then some (10 + c.toNat - 'a'.toNat)
  else if 'A' ≤ c ∧ c ≤ 'F' then some (10 + c.toNat - 'A'.toNat)
  else none

/-- The digits after those read so far, most significant first, in a base. -/
def digitsFrom (base : Nat) : Nat → List Char → Option Nat
  | n, [] => some n
  | n, c :: cs =>
    match digitValue c with
    | some d => if d < base then digitsFrom base (base * n + d) cs else none
    | none => none

/-- A number needs at least one digit. -/
def digits (base : Nat) (cs : List Char) : Option Nat :=
  if cs.isEmpty then none else digitsFrom base 0 cs

/-- R47: `0x` hexadecimal, `0b` binary, otherwise decimal. -/
def literal (cs : List Char) : Option Nat :=
  match cs with
  | '0' :: 'x' :: ds => digits 16 ds
  | '0' :: 'b' :: ds => digits 2 ds
  | ds => digits 10 ds

/-- R47: an operand, given what the host read from `y` and `r` after the previous command, if it may use it. -/
def operand (previous : Option (Word × Word)) (cs : List Char) : Except AsmError Word :=
  match cs with
  | ['%', 'y'] => match previous with
    | some p => .ok p.1
    | none => .error .noPreviousResult
  | ['%', 'r'] => match previous with
    | some p => .ok p.2
    | none => .error .noPreviousResult
  | _ => match literal cs with
    | some n => if wordFits n then .ok (BitVec.ofNat 24 n) else .error .outOfRange
    | none => .error .badLiteral

/-- Text without the blanks at its two ends. -/
def trimBlanks (cs : List Char) : List Char :=
  ((cs.dropWhile Char.isWhitespace).reverse.dropWhile Char.isWhitespace).reverse

/-- The operand texts of a line, separated by one comma. -/
def operandTexts (cs : List Char) : List (List Char) :=
  match cs.span (· != ',') with
  | (x, []) => [trimBlanks x]
  | (x, _ :: y) => [trimBlanks x, trimBlanks y]

/-- R47: one line of assembler text; `none` for a line that holds no command. `NOT` takes one operand and its
`b` field is assembled as 0. -/
def assemble (previous : Option (Word × Word)) (line : List Char) : Except AsmError (Option Instr) :=
  let text := trimBlanks (line.takeWhile (· != ';'))
  if text.isEmpty then .ok none
  else
    let (name, rest) := text.span (fun c => !c.isWhitespace)
    match opcodeOfName name with
    | none => .error .unknownMnemonic
    | some op =>
      match (operandTexts rest).map (operand previous), op == 0x7 with
      | [.ok a], true => .ok (some (decodeFields op a 0))
      | [.ok a, .ok b], false => .ok (some (decodeFields op a b))
      | [.error e], true => .error e
      | [.error e, _], false => .error e
      | [.ok _, .error e], false => .error e
      | _, _ => .error .operandCount

end Sys2Proof.Machine
end

