-- ==== Sys2Proof/Machine/Command.lean ====
section
/-! DEFINITION. `Exec(op, a, b)` of R43, written from its own table of opcode numbers: a total function of the
three values that reads nothing else (R3, R43). The step does not use it; claims do, so that an error in the
decoder or in the dispatch would show against it. -/

namespace Sys2Proof.Machine

/-- R43: the outcome of a latched command. -/
def commandResult (op : Opcode) (a b : Word) : Result :=
  if op = 0x1 then .ok (mulWord a b) 0
  else if op = 0x2 then (if b = 0 then .fault .divisionByZero else .ok (quotient a b) (remainder a b))
  else if op = 0x3 then (if b = 0 then .fault .divisionByZero else .ok (remainder a b) (remainder a b))
  else if op = 0x4 then .ok (a &&& b) 0
  else if op = 0x5 then .ok (a ||| b) 0
  else if op = 0x6 then .ok (a ^^^ b) 0
  else if op = 0x7 then .ok (~~~a) 0
  else if op = 0x8 then .ok (shiftLeft a b.toNat) 0
  else if op = 0x9 then .ok (shiftRight a b.toNat) 0
  else .fault .illegalOp

end Sys2Proof.Machine
end

