-- ==== Sys2Proof/Machine/BitTable.lean ====
section
/-! DEFINITION. BitTable (R28, R29): the constant table of the 24 powers of two. It is not state; an index is a
`Fin 24`, so no access outside `0..23` can be formed (R30). -/

namespace Sys2Proof.Machine

/-- R28: the 24 entries as the spec's table lists them, index 0 the most significant bit. -/
def bitTable : Vector Word 24 :=
  #v[0x800000, 0x400000, 0x200000, 0x100000, 0x080000, 0x040000, 0x020000, 0x010000,
     0x008000, 0x004000, 0x002000, 0x001000, 0x000800, 0x000400, 0x000200, 0x000100,
     0x000080, 0x000040, 0x000020, 0x000010, 0x000008, 0x000004, 0x000002, 0x000001]

/-- `T[i]`. -/
def T (i : Fin 24) : Word := bitTable[i]

/-- The 24 table indices in ascending order, that is from the most significant bit down. -/
def tableIndices : List (Fin 24) := List.finRange 24

end Sys2Proof.Machine
end

