-- ==== Sys2Proof/Machine/Datapath.lean ====
section
/-! DEFINITION. The datapath inside the block: the primitives of R8, the bit extraction of R60 and R61 and the
reference algorithms of the sub-units (R51, R56, R65, R66, R69, R71) with their iteration counts (R99). They are the spec's description of the
hidden computation (R18); the observable results are the closed forms the instructions' meanings write, and
that the two agree is stated among the obligations (D34). -/

namespace Sys2Proof.Machine

/-- R8: `add24(x, y) = (x + y) mod 2^24`. -/
def add24 (x y : Word) : Word := x + y

/-- R8: `sub24(x, y) = (x − y) mod 2^24`. -/
def sub24 (x y : Word) : Word := x - y

/-- R8: doubling is an addition. -/
def dbl24 (x : Word) : Word := add24 x x

/-- R60: the new working value and the extracted bit. -/
def takeBit (v t : Word) : Word × Bool :=
  if t ≤ v then (sub24 v t, true) else (v, false)

/-- R61: the bits extracted at a list of table indices in order, and the working value left. -/
def extractBits : Word → List (Fin 24) → List Bool × Word
  | w, [] => ([], w)
  | w, i :: is =>
    let p := takeBit w (T i)
    let q := extractBits p.1 is
    (p.2 :: q.1, q.2)

/-- The doubling loop of R51 and R56, index 0 first: the pairs `(key, companion)` it keeps. It exits when the
doubled key wraps or exceeds `limit`. The scratch arrays have 24 entries (R18), so `fuel` 23 more than the
first are offered. In MUL the key is `r`, the companion `d`; in DIV the key is `d`, the companion `r`. -/
def doublings (limit : Word) : Nat → Word → Word → List (Word × Word)
  | 0, key, companion => [(key, companion)]
  | fuel + 1, key, companion =>
    let key' := dbl24 key
    if key' < key then [(key, companion)]
    else if limit < key' then [(key, companion)]
    else (key, companion) :: doublings limit fuel key' (dbl24 companion)

/-- One iteration of the scan of R51 and R56 on `(rem, acc)`. -/
def scanStep (s : Word × Word) (p : Word × Word) : Word × Word :=
  if p.1 ≤ s.1 then (sub24 s.1 p.1, add24 s.2 p.2) else s

/-- The scan of R51 and R56, from the top index down to 0: what remains and the accumulator. -/
def scan (rem : Word) (kept : List (Word × Word)) : Word × Word :=
  kept.reverse.foldl scanStep (rem, 0)

/-- R51: the sequences `(r[i], d[i])` of the multiplier, for the operands after the swap. -/
def mulSequence (a b : Word) : List (Word × Word) := doublings b 23 1 a

/-- R51 after the swap. -/
def mulOrdered (a b : Word) : Word :=
  if b = 1 then a
  else if b = 0 then 0
  else (scan b (mulSequence a b)).2

/-- R51: the reference algorithm of the MUL sub-unit. -/
def mulAlgorithm (a b : Word) : Word :=
  if a < b then mulOrdered b a else mulOrdered a b

/-- R56: the sequences `(d[i], r[i])` of the divider. -/
def divSequence (a b : Word) : List (Word × Word) := doublings a 23 b 1

/-- R56: the reference algorithm of the DIVMOD sub-unit, for `b ≠ 0`: quotient and remainder. -/
def divmodAlgorithm (a b : Word) : Word × Word :=
  if b = 1 then (a, 0)
  else
    let p := scan a (divSequence a b)
    (p.2, p.1)

/-- One iteration of R66 on `(wa, wb, y)`. -/
def logicStep (f : Bool → Bool → Bool) (s : Word × Word × Word) (i : Fin 24) : Word × Word × Word :=
  let p := takeBit s.1 (T i)
  let q := takeBit s.2.1 (T i)
  (p.1, q.1, if f p.2 q.2 then add24 s.2.2 (T i) else s.2.2)

/-- R66: the reference algorithm of the LOGIC sub-unit for the bit function `f`. -/
def logicAlgorithm (f : Bool → Bool → Bool) (a b : Word) : Word :=
  (tableIndices.foldl (logicStep f) (a, b, 0)).2.2

/-- One iteration of the algorithm of R65 on `(w, y)`. -/
def notStep (s : Word × Word) (i : Fin 24) : Word × Word :=
  let p := takeBit s.1 (T i)
  (p.1, if p.2 then s.2 else add24 s.2 (T i))

/-- R65: the algorithm of NOT. -/
def notAlgorithm (a : Word) : Word := (tableIndices.foldl notStep (a, 0)).2

/-- One iteration of the second loop of R69, shift amount `s`: extract at `i`, deposit at `i − s`. -/
def shlStep (s : Nat) (p : Word × Word) (i : Fin 24) : Word × Word :=
  let q := takeBit p.1 (T i)
  (q.1, if q.2 then add24 p.2 (T ⟨i.1 - s, by omega⟩) else p.2)

/-- R69: the reference algorithm of SHL; the first `s` indices are the discard walk. -/
def shlAlgorithm (a : Word) (s : Nat) : Word :=
  if 24 ≤ s then 0
  else
    let w := (tableIndices.take s).foldl (fun w i => (takeBit w (T i)).1) a
    ((tableIndices.drop s).foldl (shlStep s) (w, 0)).2

/-- One iteration of R71, shift amount `s`: extract at `j − s`, deposit at `j`. -/
def shrStep (s : Nat) (p : Word × Word) (j : Fin 24) : Word × Word :=
  let q := takeBit p.1 (T ⟨j.1 - s, by omega⟩)
  (q.1, if q.2 then add24 p.2 (T j) else p.2)

/-- R71: the corrected reference algorithm of SHR. -/
def shrAlgorithm (a : Word) (s : Nat) : Word :=
  if 24 ≤ s then 0 else ((tableIndices.drop s).foldl (shrStep s) (a, 0)).2

/-- R99: loop iterations of a reference algorithm, for information only; not clock edges. -/
structure Iterations where
  /-- Doubling iterations, the one that exits included. -/
  doubling : Nat
  /-- Scan iterations, or steps of a table walk. -/
  scan : Nat
  deriving DecidableEq, Repr

/-- R99, MUL: the kept doublings and one that exits, then one scan per kept entry; none for an operand up to 1. -/
def mulIterations (a b : Word) : Iterations :=
  let kept := if a < b then mulSequence b a else mulSequence a b
  if min a.toNat b.toNat ≤ 1 then ⟨0, 0⟩ else ⟨kept.length, kept.length⟩

/-- R99, DIV and MOD, for `b ≠ 0`; none for `b = 1`. -/
def divIterations (a b : Word) : Iterations :=
  if b = 1 then ⟨0, 0⟩ else ⟨(divSequence a b).length, (divSequence a b).length⟩

/-- R99, AND, OR, XOR and NOT: the whole table, always. -/
def logicIterations : Iterations := ⟨0, tableIndices.length⟩

/-- R99, SHL: the discard walk and the deposits. -/
def shlIterations (s : Nat) : Iterations :=
  if 24 ≤ s then ⟨0, 0⟩ else ⟨0, (tableIndices.take s).length + (tableIndices.drop s).length⟩

/-- R99, SHR: the deposits. -/
def shrIterations (s : Nat) : Iterations :=
  if 24 ≤ s then ⟨0, 0⟩ else ⟨0, (tableIndices.drop s).length⟩

end Sys2Proof.Machine
end

