-- ==== Sys2Proof/Safety.lean ====
section
/-! DEFINITION. The terms claims use: the spec's registers as one tuple, the legal status combinations (R15), what the
result registers say of the latched command (R26), a run without a fault recorded (U3), and schedules of edges. -/

namespace Sys2Proof.Machine

/-- The spec's state `S = (OP, A, B, Y, R, ST.busy, ST.done, ST.err, ST.cause)` of 10_state.md section 8, written
`⟨op, a, b, y, r, busy, done, err, cause⟩` as 95_test_vectors.md writes it. -/
structure Registers where
  /-- `OP`. -/
  op : Opcode
  /-- `A`. -/
  a : Word
  /-- `B`. -/
  b : Word
  /-- `Y`. -/
  y : Word
  /-- `R`. -/
  r : Word
  /-- `ST.busy`. -/
  busy : Bool
  /-- `ST.done`. -/
  done : Bool
  /-- `ST.err`. -/
  err : Bool
  /-- `ST.cause`. -/
  cause : BitVec 2
  deriving DecidableEq, Repr

/-- The spec's part of a state: all nine registers and fields, and none of the model's own. -/
def State.registers (s : State) : Registers :=
  ⟨s.op, s.a, s.b, s.y, s.r, s.busy, s.done, s.err, s.cause⟩

/-- The latched command is kept: `OP`, `A`, `B` of `t` are those of `s` (R21). -/
def State.sameCommand (s t : State) : Prop := t.op = s.op ∧ t.a = s.a ∧ t.b = s.b

/-- The model's own fields of `t` are those of `s`. -/
def State.sameBookkeeping (s t : State) : Prop :=
  t.edges = s.edges ∧ t.wasReset = s.wasReset ∧ t.draws = s.draws ∧ t.faultMark = s.faultMark

/-- R21: the status after a completion without fault. -/
def State.succeeded (s : State) : Prop :=
  s.busy = false ∧ s.done = true ∧ s.err = false ∧ s.cause = 0

/-- R76: the status after a faulted completion with cause number `c`. -/
def State.faulted (c : BitVec 2) (s : State) : Prop :=
  s.busy = false ∧ s.done = true ∧ s.err = true ∧ s.cause = c

/-- R15: the legal combinations of the status fields. -/
def State.legalStatus (s : State) : Prop :=
  ¬(s.busy = true ∧ s.done = true) ∧ (s.err = true → s.done = true) ∧ (s.cause ≠ 0 ↔ s.err = true) ∧ s.cause ≠ 3

/-- R26: once `done` is 1 the results and the status are those of `Exec` of the latched command. -/
def State.describesCommand (s : State) : Prop :=
  s.done = true →
    match commandResult s.op s.a s.b with
    | .ok y r => s.err = false ∧ s.cause = 0 ∧ s.y = y ∧ s.r = r
    | .fault c => s.err = true ∧ s.cause = c.code

/-- U3: no fault has been recorded in this run. -/
def State.noFaultRecorded (s : State) : Prop := s.faultMark = false

/-- An edge at which a busy block has to wait: no reset, and the latency has not elapsed. The other ports may show
anything. -/
def Edge.waiting (p : Edge) : Prop := p.rst = false ∧ p.elapsed = false

/-- An edge at which a busy block completes: no reset, and the latency has elapsed. -/
def Edge.due (p : Edge) : Prop := p.rst = false ∧ p.elapsed = true

/-- An edge at which an idle block stays as it is: no reset, no command. -/
def Edge.silent (p : Edge) : Prop := p.rst = false ∧ p.start = false

/-- An edge at which an idle block accepts command `i`. -/
def Edge.presents (i : Instr) (p : Edge) : Prop :=
  p.rst = false ∧ p.start = true ∧ p.op = i.opcode ∧ p.a = i.opA ∧ p.b = i.opB

end Sys2Proof.Machine
end

