-- ==== Sys2Proof/Certificates/Slice0/Obligations.lean ====
section
/-! DEFINITION. The statements for the provers, from the numbered rules of spec/. -/

open Sys2Proof Sys2Proof.Machine

/-! ## Encoding -/

/-- R40, R42, R45: no field of a command is lost by encoding and decoding it. -/
def Obligations.DecodeEncodeIsIdentity : Prop :=
  ∀ i : Instr, i.wellFormed = true ∧ decode (encode i) = i

/-- R40, R46: every 52-bit word is the word of exactly the command it decodes to. -/
def Obligations.EncodeDecodeIsIdentity : Prop :=
  ∀ w : CommandWord, encode (decode w) = w

/-- Words the spec writes out decode to the commands they stand for, at least one of each family: the MUL word is R40's
own example (30_encoding.md section 1), the others stand in 95_test_vectors.md. -/
def Obligations.SpecWordsDecode : Prop :=
  decode 0x1000064000003 = .mul 100 3 ∧ decode 0x2000064000003 = .div 100 3 ∧
  decode 0x3000064000003 = .mod 100 3 ∧ decode 0x4ABCDEF00FF00 = .and 0xABCDEF 0x00FF00 ∧
  decode 0x7ABCDEF123456 = .not 0xABCDEF 0x123456 ∧ decode 0x8ABCDEF000008 = .shl 0xABCDEF 8 ∧
  decode 0x9ABCDEF000008 = .shr 0xABCDEF 8 ∧ decode 0x0000064000003 = .reserved0 100 3 ∧
  decode 0xFFFFFFFFFFFFF = .reservedF 0xFFFFFF 0xFFFFFF

/-- R40: there is no second length. A number of more than 52 bits is no command, and one of 52 bits is. -/
def Obligations.CommandWordsHave52Bits : Prop :=
  (∀ n : Nat, 2 ^ 52 ≤ n → decodeNat n = .error .tooWide) ∧
  (∀ n : Nat, n < 2 ^ 52 → decodeNat n = .ok (decode (BitVec.ofNat 52 n)))

/-- R42, R45, R46: the four opcode bits alone choose the operation, and the operands are the two fields as they
stand (R41). -/
def Obligations.OpcodeFieldSelectsCommand : Prop :=
  ∀ w : CommandWord, (decode w).opcode = opField w ∧ (decode w).opA = aField w ∧ (decode w).opB = bField w

/-- R47: a literal outside `0 .. 16777215` is an assembly error, and one inside is taken as it stands. -/
def Obligations.AssemblerChecksLiteralRange : Prop :=
  ∀ (previous : Option (Word × Word)) (cs : List Char) (n : Nat), literal cs = some n →
    (2 ^ 24 ≤ n → operand previous cs = .error .outOfRange) ∧
    (n < 2 ^ 24 → ∃ w, operand previous cs = .ok w ∧ w.toNat = n)

/-! ## The four steps -/

/-- R23: the reset values, and the reset step from every state, one that was never reset included. -/
def Obligations.ResetClearsEveryRegister : Prop :=
  State.reset.registers = ⟨0, 0, 0, 0, 0, false, false, false, 0⟩ ∧
  ∀ s : State, s.nextEdge.rst = true →
    ∃ t, step s = .next t ∧ t.registers = ⟨0, 0, 0, 0, 0, false, false, false, 0⟩

/-- R20: the accept step. -/
def Obligations.AcceptLatchesTheCommand : Prop :=
  ∀ s : State, s.wasReset = true → s.nextEdge.rst = false → s.busy = false → s.nextEdge.start = true →
    ∃ t, step s = .next t ∧
      t.registers = ⟨s.nextEdge.op, s.nextEdge.a, s.nextEdge.b, s.y, s.r, true, false, false, 0⟩

/-- R22: the idle step changes no register, whatever the other ports show. -/
def Obligations.IdleChangesNoRegister : Prop :=
  ∀ s : State, s.wasReset = true → s.nextEdge.rst = false →
    ((s.busy = false ∧ s.nextEdge.start = false) ∨ (s.busy = true ∧ s.nextEdge.elapsed = false)) →
    ∃ t, step s = .next t ∧ t.registers = s.registers

/-- A step runs the decoded command: at a busy block whose latency has elapsed the step is `exec` of the latched
command, at the state whose only difference is that the edge has passed. -/
def Obligations.DueStepRunsLatchedCommand : Prop :=
  ∀ (s : State) (i : Instr), s.wasReset = true → s.nextEdge.rst = false → s.busy = true →
    s.nextEdge.elapsed = true → decode s.latched = i →
    step s = exec i s.clockEdge ∧ s.clockEdge.registers = s.registers ∧ s.clockEdge.edges = s.edges.tail ∧
      s.clockEdge.wasReset = s.wasReset ∧ s.clockEdge.draws = s.draws ∧ s.clockEdge.faultMark = s.faultMark

/-- R21, R43: the complete step writes the outcome `Exec` gives the latched command. Of `Y` and `R` after a fault
nothing is said: they are unspecified. -/
def Obligations.CompleteWritesOutcomeOfExec : Prop :=
  ∀ s : State, s.wasReset = true → s.nextEdge.rst = false → s.busy = true → s.nextEdge.elapsed = true →
    ∃ t, step s = .next t ∧ s.sameCommand t ∧ t.busy = false ∧ t.done = true ∧
      match commandResult s.op s.a s.b with
      | .ok y r => t.y = y ∧ t.r = r ∧ t.err = false ∧ t.cause = 0
      | .fault c => t.err = true ∧ t.cause = c.code

/-- R20 to R23: after the first reset every edge has a step, whatever the state and the ports. -/
def Obligations.EveryEdgeAfterResetHasAStep : Prop :=
  ∀ s : State, s.wasReset = true → ∃ t, step s = .next t ∧ t.wasReset = true

/-- R10, R12 to R15: each register is written only by its own steps. Without a reset, `OP`, `A`, `B` change only at
an accept, `Y` and `R` only at a completion, and the status only at one of the two; every step uses up one edge. -/
def Obligations.RegistersChangeOnlyAtTheirSteps : Prop :=
  ∀ s t : State, step s = .next t →
    t.edges = s.edges.tail ∧
    (s.nextEdge.rst = false →
      (¬(s.busy = false ∧ s.nextEdge.start = true) → s.sameCommand t) ∧
      (¬(s.busy = true ∧ s.nextEdge.elapsed = true) → t.y = s.y ∧ t.r = s.r) ∧
      (¬(s.busy = false ∧ s.nextEdge.start = true) → ¬(s.busy = true ∧ s.nextEdge.elapsed = true) →
        t.st = s.st))

/-- R89 as modelled (log entry 6): before the first reset an edge without `rst` is refused by name, and an edge
with `rst` makes the block ready. -/
def Obligations.NothingHoldsBeforeFirstReset : Prop :=
  ∀ s : State, s.wasReset = false →
    (s.nextEdge.rst = false → step s = .refused .beforeFirstReset) ∧
    (s.nextEdge.rst = true → ∃ t, step s = .next t ∧ t.wasReset = true ∧ t.busy = false ∧ t.done = false)

/-- R78 item 1, R87: an edge with `rst` does the same whatever else the ports show. -/
def Obligations.ResetBeatsEveryOtherInput : Prop :=
  ∀ (s : State) (p q : Edge) (rest : List Edge), p.rst = true → q.rst = true →
    step { s with edges := p :: rest } = step { s with edges := q :: rest }

/-- R93, R94: while the block is busy `start`, `op`, `a`, `b` have no effect, and while it is idle and `start` is 0
`op`, `a`, `b` have none. -/
def Obligations.OperandPortsReadOnlyAtAccept : Prop :=
  ∀ (s : State) (p q : Edge) (rest : List Edge), p.rst = q.rst →
    (s.busy = true ∧ p.elapsed = q.elapsed) ∨ (s.busy = false ∧ p.start = false ∧ q.start = false) →
    step { s with edges := p :: rest } = step { s with edges := q :: rest }

/-! ## The commands -/

/-- R50: MUL, with its encoding and its flags. -/
def Obligations.MulGivesLowProduct : Prop :=
  ∀ (a b : Word) (s : State), decode (0x1#4 ++ a ++ b) = .mul a b ∧
    ∃ t, exec (.mul a b) s = .next t ∧ t.y.toNat = a.toNat * b.toNat % 2 ^ 24 ∧ t.r = 0 ∧ t.succeeded

/-- R54: DIV, with its encoding and its flags; a zero divisor faults with cause 1. -/
def Obligations.DivGivesQuotientAndRemainder : Prop :=
  ∀ (a b : Word) (s : State), decode (0x2#4 ++ a ++ b) = .div a b ∧
    ∃ t, exec (.div a b) s = .next t ∧
      if b.toNat = 0 then t.faulted 1
      else t.y.toNat = a.toNat / b.toNat ∧ t.r.toNat = a.toNat % b.toNat ∧ t.succeeded

/-- R55: MOD, with its encoding and its flags; a zero divisor faults with cause 1. -/
def Obligations.ModGivesRemainderTwice : Prop :=
  ∀ (a b : Word) (s : State), decode (0x3#4 ++ a ++ b) = .mod a b ∧
    ∃ t, exec (.mod a b) s = .next t ∧
      if b.toNat = 0 then t.faulted 1
      else t.y.toNat = a.toNat % b.toNat ∧ t.r.toNat = a.toNat % b.toNat ∧ t.succeeded

/-- R62: AND bit by bit, with its encoding and its flags. -/
def Obligations.AndCombinesBits : Prop :=
  ∀ (a b : Word) (s : State), decode (0x4#4 ++ a ++ b) = .and a b ∧
    ∃ t, exec (.and a b) s = .next t ∧
      (∀ k : Nat, k < 24 → t.y.getLsbD k = (a.getLsbD k && b.getLsbD k)) ∧ t.r = 0 ∧ t.succeeded

/-- R63: OR bit by bit, with its encoding and its flags. -/
def Obligations.OrCombinesBits : Prop :=
  ∀ (a b : Word) (s : State), decode (0x5#4 ++ a ++ b) = .or a b ∧
    ∃ t, exec (.or a b) s = .next t ∧
      (∀ k : Nat, k < 24 → t.y.getLsbD k = (a.getLsbD k || b.getLsbD k)) ∧ t.r = 0 ∧ t.succeeded

/-- R64: XOR bit by bit, with its encoding and its flags. -/
def Obligations.XorCombinesBits : Prop :=
  ∀ (a b : Word) (s : State), decode (0x6#4 ++ a ++ b) = .xor a b ∧
    ∃ t, exec (.xor a b) s = .next t ∧
      (∀ k : Nat, k < 24 → t.y.getLsbD k = (a.getLsbD k != b.getLsbD k)) ∧ t.r = 0 ∧ t.succeeded

/-- R65: NOT bit by bit, its closed form `0xFFFFFF − A`, its algorithm, its encoding and its flags; `b` is any
value. -/
def Obligations.NotComplementsTheWord : Prop :=
  ∀ (a b : Word) (s : State), decode (0x7#4 ++ a ++ b) = .not a b ∧
    ∃ t, exec (.not a b) s = .next t ∧ (∀ k : Nat, k < 24 → t.y.getLsbD k = !a.getLsbD k) ∧
      t.y.toNat = 0xFFFFFF - a.toNat ∧ t.y = notAlgorithm a ∧ t.r = 0 ∧ t.succeeded

/-- R68: SHL by `b`, as a product and bit by bit, with its encoding and its flags. -/
def Obligations.ShlShiftsLeft : Prop :=
  ∀ (a b : Word) (s : State), decode (0x8#4 ++ a ++ b) = .shl a b ∧
    ∃ t, exec (.shl a b) s = .next t ∧ t.r = 0 ∧ t.succeeded ∧
      if 24 ≤ b.toNat then t.y = 0
      else t.y.toNat = a.toNat * 2 ^ b.toNat % 2 ^ 24 ∧
        ∀ k : Nat, k < 24 → t.y.getLsbD k = (decide (b.toNat ≤ k) && a.getLsbD (k - b.toNat))

/-- R70: SHR by `b`, as a floor quotient and bit by bit, with its encoding and its flags. -/
def Obligations.ShrShiftsRight : Prop :=
  ∀ (a b : Word) (s : State), decode (0x9#4 ++ a ++ b) = .shr a b ∧
    ∃ t, exec (.shr a b) s = .next t ∧ t.r = 0 ∧ t.succeeded ∧
      if 24 ≤ b.toNat then t.y = 0
      else t.y.toNat = a.toNat / 2 ^ b.toNat ∧
        ∀ k : Nat, k < 24 → t.y.getLsbD k = (decide (k + b.toNat ≤ 23) && a.getLsbD (k + b.toNat))

/-- R45, R75: each of the seven reserved opcodes completes with cause 2, whatever the operands. -/
def Obligations.ReservedOpcodesFault : Prop :=
  ∀ (a b : Word) (s : State), ∀ p ∈ [((0x0 : Opcode), Instr.reserved0 a b), (0xA, .reservedA a b),
      (0xB, .reservedB a b), (0xC, .reservedC a b), (0xD, .reservedD a b), (0xE, .reservedE a b),
      (0xF, .reservedF a b)],
    decode (p.1 ++ a ++ b) = p.2 ∧ ∃ t, exec p.2 s = .next t ∧ t.faulted 2

/-- R43: the meaning of every command, all sixteen constructors, is the completion with the outcome that the
numbered table of `Exec` gives its opcode and operands. -/
def Obligations.EveryCommandCompletesAsExecSays : Prop :=
  ∀ (i : Instr) (s : State), exec i s = .next (s.complete (commandResult i.opcode i.opA i.opB))

/-- R73: exactly two faults, each under exactly its condition, with `OP`, `A`, `B` still those of the command. -/
def Obligations.ExactlyTwoFaultCauses : Prop :=
  ∀ (i : Instr) (s : State), ∃ t, exec i s = .next t ∧ s.sameCommand t ∧
    if (i.opcode = 0x2 ∨ i.opcode = 0x3) ∧ i.opB = 0 then t.err = true ∧ t.cause = 1
    else if i.opcode = 0x0 ∨ 0xA ≤ i.opcode.toNat then t.err = true ∧ t.cause = 2
    else t.err = false ∧ t.cause = 0

/-- The frame of every command: it keeps the latched command, the coming edges and the reset mark. -/
def Obligations.CommandsKeepLatchedCommandAndEdges : Prop :=
  ∀ (i : Instr) (s t : State), exec i s = .next t →
    s.sameCommand t ∧ t.edges = s.edges ∧ t.wasReset = s.wasReset

/-- The frame of the model's own fields (log entries 4 and 5): a command that does not fault draws no unspecified
value and leaves the fault mark, and one that faults draws two and sets it. -/
def Obligations.OnlyFaultsDrawUnspecifiedWords : Prop :=
  ∀ (i : Instr) (s t : State), exec i s = .next t →
    (t.err = false → t.draws = s.draws ∧ t.faultMark = s.faultMark) ∧
    (t.err = true → t.draws = s.draws + 2 ∧ t.faultMark = true)

/-! ## Faults -/

/-- R77, R80: a fault does not stop the block, and the next accept clears it. -/
def Obligations.FaultIsClearedByNextAccept : Prop :=
  ∀ (s : State) (p q : Edge) (rest : List Edge) (c : Cause) (i : Instr),
    s.wasReset = true → s.busy = true → s.edges = p :: q :: rest → p.due → q.presents i →
    commandResult s.op s.a s.b = .fault c →
    ∃ t u, step s = .next t ∧ t.faulted c.code ∧
      step t = .next u ∧ u.registers = ⟨i.opcode, i.opA, i.opB, t.y, t.r, true, false, false, 0⟩

/-- U3 as modelled (log entry 5): the fault mark is never cleared, and a fault reported by a step sets it. -/
def Obligations.FaultMarkIsNeverCleared : Prop :=
  ∀ s t : State, step s = .next t →
    (t.noFaultRecorded → s.noFaultRecorded) ∧ (s.err = false → t.err = true → ¬t.noFaultRecorded)

/-! ## Status, outputs and invariants -/

/-- R15: the packing of `ST`. -/
def Obligations.StatusWordLayout : Prop :=
  ∀ s : State, s.st.getLsbD 0 = s.busy ∧ s.st.getLsbD 1 = s.done ∧ s.st.getLsbD 2 = s.err ∧
    s.st.extractLsb' 3 2 = s.cause

/-- R24: the output ports are copies of the registers. R26, R95: a host may use `y` and `r` exactly while `done` is
1 and `err` is 0. -/
def Obligations.OutputsCopyRegisters : Prop :=
  ∀ s : State, s.outputs = ⟨s.busy, s.done, s.err, s.cause, s.y, s.r⟩ ∧
    (s.outputs.results = some (s.y, s.r) ↔ s.done = true ∧ s.err = false) ∧
    (s.outputs.results = none ↔ ¬(s.done = true ∧ s.err = false))

/-- The status after reset is legal (R15), and no result is claimed there (R26). -/
def Obligations.ResetStateMeetsInvariants : Prop :=
  State.reset.legalStatus ∧ State.reset.describesCommand ∧ State.reset.noFaultRecorded

/-- R15: every step keeps the status fields in a legal combination. -/
def Obligations.StepKeepsLegalStatus : Prop :=
  ∀ s t : State, s.legalStatus → step s = .next t → t.legalStatus

/-- R26: every step keeps that, while `done` is 1, the result and status registers hold what `Exec` gives the
latched command. -/
def Obligations.StepKeepsResultsDescribingCommand : Prop :=
  ∀ s t : State, s.describesCommand → step s = .next t → t.describesCommand

/-- R3, R27: what a command gives depends on nothing but its opcode and operands. -/
def Obligations.OutcomeDependsOnCommandAlone : Prop :=
  ∀ s₁ s₂ : State, s₁.sameCommand s₂ →
    s₁.wasReset = true → s₁.busy = true → s₁.nextEdge.due →
    s₂.wasReset = true → s₂.busy = true → s₂.nextEdge.due →
    ∃ t₁ t₂, step s₁ = .next t₁ ∧ step s₂ = .next t₂ ∧ t₁.err = t₂.err ∧ t₁.cause = t₂.cause ∧
      (t₁.err = false → t₁.y = t₂.y ∧ t₁.r = t₂.r)

/-! ## Runs over many edges -/

/-- R25, R98: where the edges keep to `LAT(OP, A, B)`, the command in flight completes after exactly that many edges
without `rst`, at least 1 and at most `LAT_MAX`. -/
def Obligations.CommandCompletesWithinLatencyBound : Prop :=
  ∀ (s : State) (ws : List Edge) (p : Edge) (rest : List Edge), s.wasReset = true → s.busy = true →
    (∀ w ∈ ws, w.waiting) → p.due → s.edges = ws ++ p :: rest → ws.length + 1 = Config.latency s.op s.a s.b →
    1 ≤ Config.latency s.op s.a s.b ∧ Config.latency s.op s.a s.b ≤ Config.latencyMax ∧
    ∃ t, core.run (Config.latency s.op s.a s.b) s = .next t ∧ t.busy = false ∧ t.done = true ∧
      s.sameCommand t ∧ t.describesCommand

/-- R25: a busy block completes at the edge its latency elapses, however many edges it waits, and every register
is unchanged until then. -/
def Obligations.BusyBlockCompletesWhenDue : Prop :=
  ∀ (s : State) (ws : List Edge) (p : Edge) (rest : List Edge), s.wasReset = true → s.busy = true →
    (∀ w ∈ ws, w.waiting) → p.due → s.edges = ws ++ p :: rest →
    ∃ u t, core.run ws.length s = .next u ∧ u.registers = s.registers ∧ step u = .next t ∧
      core.run (ws.length + 1) s = .next t ∧ t.busy = false ∧ t.done = true ∧ s.sameCommand t ∧
      t.describesCommand ∧ t.edges = rest

/-- R20, R21, R98: the whole handshake. A command presented to an idle block completes after its latency with the
outcome `Exec` gives it, whatever the block held before and whatever the other ports show meanwhile. -/
def Obligations.HandshakeComputesExec : Prop :=
  ∀ (s : State) (i : Instr) (q : Edge) (ws : List Edge) (p : Edge) (rest : List Edge),
    s.wasReset = true → s.busy = false → q.presents i → (∀ w ∈ ws, w.waiting) → p.due →
    s.edges = q :: (ws ++ p :: rest) →
    ∃ t, core.run (ws.length + 2) s = .next t ∧ t.edges = rest ∧ t.op = i.opcode ∧ t.a = i.opA ∧ t.b = i.opB ∧
      t.busy = false ∧ t.done = true ∧
      match commandResult i.opcode i.opA i.opB with
      | .ok y r => t.outputs.results = some (y, r) ∧ t.cause = 0
      | .fault c => t.err = true ∧ t.cause = c.code

/-- R16, R34: a host that issues commands one after another sees, after the last, that command's outcome alone. -/
def Obligations.LastCommandAloneIsVisible : Prop :=
  ∀ (s : State) (cmds : List (Instr × Nat)) (i : Instr) (n : Nat) (rest : List Edge),
    s.wasReset = true → s.busy = false → s.edges = Edge.program (cmds ++ [(i, n)]) ++ rest →
    ∃ t, core.run (Edge.program (cmds ++ [(i, n)])).length s = .next t ∧ t.edges = rest ∧
      t.op = i.opcode ∧ t.a = i.opA ∧ t.b = i.opB ∧ t.busy = false ∧ t.done = true ∧ t.describesCommand

/-- R95: results stay as they are for as many edges as the host presents no command. -/
def Obligations.ResultsStayUntilNextAccept : Prop :=
  ∀ (s : State) (ws rest : List Edge), s.wasReset = true → s.busy = false → (∀ w ∈ ws, w.silent) →
    s.edges = ws ++ rest →
    ∃ t, core.run ws.length s = .next t ∧ t.registers = s.registers ∧ t.edges = rest

/-- R88: a reset while busy abandons the command: at no later edge, until a command is presented, does anything
of it show. -/
def Obligations.ResetAbandonsCommandInFlight : Prop :=
  ∀ (s : State) (p : Edge) (ws rest : List Edge), s.busy = true → p.rst = true → (∀ w ∈ ws, w.silent) →
    s.edges = p :: (ws ++ rest) →
    ∃ t, core.run (ws.length + 1) s = .next t ∧ t.registers = ⟨0, 0, 0, 0, 0, false, false, false, 0⟩

/-! ## The datapath -/

/-- R28: the table of the powers of two. -/
def Obligations.BitTableHoldsPowersOfTwo : Prop :=
  ∀ i : Fin 24, (T i).toNat = 2 ^ (23 - i.1)

/-- R8: the primitives, and the overflow test of the doubling loops. -/
def Obligations.DatapathPrimitives : Prop :=
  ∀ x y : Word, (add24 x y).toNat = (x.toNat + y.toNat) % 2 ^ 24 ∧
    (y ≤ x → (sub24 x y).toNat = x.toNat - y.toNat) ∧ dbl24 x = add24 x x ∧
    (x ≠ 0 → (dbl24 x < x ↔ 2 ^ 23 ≤ x.toNat))

/-- R60: `TakeBit`, which never borrows. -/
def Obligations.TakeBitSubtractsWithoutBorrow : Prop :=
  ∀ v t : Word, if t.toNat ≤ v.toNat then (takeBit v t).1.toNat = v.toNat - t.toNat ∧ (takeBit v t).2 = true
    else takeBit v t = (v, false)

/-- R61: greedy extraction gives bit `23 − i` at table index `i` and leaves 0. -/
def Obligations.GreedyExtractionIsExact : Prop :=
  ∀ v : Word, (extractBits v tableIndices).2 = 0 ∧ (extractBits v tableIndices).1.length = 24 ∧
    ∀ i : Nat, i < 24 → (extractBits v tableIndices).1[i]? = some (v.getLsbD (23 - i))

/-- R51: shift-and-add gives the low 24 bits of the product. -/
def Obligations.MulAlgorithmComputesProduct : Prop :=
  ∀ a b : Word, (mulAlgorithm a b).toNat = a.toNat * b.toNat % 2 ^ 24

/-- R51 facts 1 and 2: `r[i] = 2^i`, `d[i] = (a × 2^i) mod 2^24`, and the loop ends at the highest set bit of `b`, so
the 24-entry arrays are never overrun. -/
def Obligations.MulSequencesEndAtTopBit : Prop :=
  ∀ a b : Word, 2 ≤ b.toNat →
    (mulSequence a b).length = Nat.log2 b.toNat + 1 ∧ (mulSequence a b).length ≤ 24 ∧
    ∀ i : Nat, i < (mulSequence a b).length →
      (mulSequence a b)[i]? = some (BitVec.ofNat 24 (2 ^ i), BitVec.ofNat 24 (a.toNat * 2 ^ i))

/-- R56: long division gives quotient and remainder. -/
def Obligations.DivAlgorithmComputesQuotientAndRemainder : Prop :=
  ∀ a b : Word, b ≠ 0 →
    (divmodAlgorithm a b).1.toNat = a.toNat / b.toNat ∧ (divmodAlgorithm a b).2.toNat = a.toNat % b.toNat

/-- R56 facts 1 and 2: `d[i] = b × 2^i` exactly, `r[i] = 2^i`, and the loop ends at the largest `i` with
`b × 2^i ≤ a`, or at once when `a < b`. -/
def Obligations.DivSequencesEndAtLargestMultiple : Prop :=
  ∀ a b : Word, b ≠ 0 →
    (divSequence a b).length ≤ 24 ∧
    (∀ i : Nat, i < (divSequence a b).length → b.toNat * 2 ^ i < 2 ^ 24 ∧
      (divSequence a b)[i]? = some (BitVec.ofNat 24 (b.toNat * 2 ^ i), BitVec.ofNat 24 (2 ^ i))) ∧
    (a < b → (divSequence a b).length = 1) ∧
    (b ≤ a → b.toNat * 2 ^ ((divSequence a b).length - 1) ≤ a.toNat ∧
      a.toNat < b.toNat * 2 ^ (divSequence a b).length)

/-- R66: bit-table decomposition combines the bits with any bit function `f`; for `and`, `or` and `xor` it computes
the results of R62, R63 and R64. -/
def Obligations.LogicAlgorithmCombinesBits : Prop :=
  ∀ (f : Bool → Bool → Bool) (a b : Word) (k : Nat), k < 24 →
    (logicAlgorithm f a b).getLsbD k = f (a.getLsbD k) (b.getLsbD k)

/-- R69: the walk over the table, its discard part included, computes SHL. -/
def Obligations.ShlAlgorithmShiftsLeft : Prop :=
  ∀ (a : Word) (n : Nat), (shlAlgorithm a n).toNat = if 24 ≤ n then 0 else a.toNat * 2 ^ n % 2 ^ 24

/-- R71: the corrected walk over the table computes SHR. -/
def Obligations.ShrAlgorithmShiftsRight : Prop :=
  ∀ (a : Word) (n : Nat), (shrAlgorithm a n).toNat = if 24 ≤ n then 0 else a.toNat / 2 ^ n

/-- R99: the iteration counts of the reference algorithms, row by row of its table. MUL counts the kept doublings and
the one that exits, then one scan per kept entry, and none when an operand is at most 1; DIV and MOD count `n + 1` of
each, `n` the largest `i` with `b × 2^i ≤ a` (0 if `a < b`), and none when `b = 1`. -/
def Obligations.IterationCountsAreBounded : Prop :=
  (∀ a b : Word, min a.toNat b.toNat ≤ 1 → mulIterations a b = ⟨0, 0⟩) ∧
  (∀ a b : Word, 2 ≤ min a.toNat b.toNat →
    mulIterations a b = ⟨Nat.log2 (min a.toNat b.toNat) + 1, Nat.log2 (min a.toNat b.toNat) + 1⟩ ∧
    (mulIterations a b).doubling ≤ 24 ∧
    (2 ^ 23 ≤ min a.toNat b.toNat → mulIterations a b = ⟨24, 24⟩)) ∧
  (∀ a : Word, divIterations a 1 = ⟨0, 0⟩) ∧
  (∀ a b : Word, 2 ≤ b.toNat → ∃ n : Nat, divIterations a b = ⟨n + 1, n + 1⟩ ∧ n ≤ 22 ∧
    (a.toNat < b.toNat → n = 0) ∧
    (b.toNat ≤ a.toNat → b.toNat * 2 ^ n ≤ a.toNat ∧ ∀ i : Nat, b.toNat * 2 ^ i ≤ a.toNat → i ≤ n)) ∧
  logicIterations = ⟨0, 24⟩ ∧
  (∀ n : Nat, n ≤ 23 → shlIterations n = ⟨0, 24⟩ ∧ shrIterations n = ⟨0, 24 - n⟩) ∧
  (∀ n : Nat, 24 ≤ n → shlIterations n = ⟨0, 0⟩ ∧ shrIterations n = ⟨0, 0⟩)

/-! ## Laws of the results -/

/-- R58: quotient times divisor plus remainder is the dividend, the remainder is less than the divisor, and DIV's
`R` is MOD's `Y`. -/
def Obligations.DivisionIdentity : Prop :=
  ∀ a b : Word, b ≠ 0 → ∃ q r : Word,
    commandResult 0x2 a b = .ok q r ∧ commandResult 0x3 a b = .ok r r ∧
      q.toNat * b.toNat + r.toNat = a.toNat ∧ r.toNat < b.toNat

/-- R66: the AND and the OR of two words add up to the sum of the words, as natural numbers. -/
def Obligations.AndPlusOrIsSum : Prop :=
  ∀ a b : Word, ∃ x y : Word, commandResult 0x4 a b = .ok x 0 ∧ commandResult 0x5 a b = .ok y 0 ∧
    x.toNat + y.toNat = a.toNat + b.toNat

/-- R72: shifting left and back right recovers the bits not shifted out, and shifting right and back left clears
the low bits. -/
def Obligations.ShiftThereAndBack : Prop :=
  ∀ a n : Word, n.toNat ≤ 23 → ∃ x y z w : Word,
    commandResult 0x8 a n = .ok x 0 ∧ commandResult 0x9 x n = .ok y 0 ∧
      y.toNat = a.toNat % 2 ^ (24 - n.toNat) ∧
    commandResult 0x9 a n = .ok z 0 ∧ commandResult 0x8 z n = .ok w 0 ∧
      w.toNat = a.toNat - a.toNat % 2 ^ n.toNat

/-- R52, R72: MUL is commutative, and by a power of two it gives what SHL gives; R58: DIV by a power of two gives what
SHR gives, and MOD by it, as DIV's remainder, what AND with the mask gives. -/
def Obligations.PowersOfTwoAreShifts : Prop :=
  ∀ a b k : Word, k.toNat ≤ 23 →
    commandResult 0x1 a b = commandResult 0x1 b a ∧
    commandResult 0x1 a (BitVec.ofNat 24 (2 ^ k.toNat)) = commandResult 0x8 a k ∧
    ∃ q r : Word, commandResult 0x2 a (BitVec.ofNat 24 (2 ^ k.toNat)) = .ok q r ∧
      commandResult 0x9 a k = .ok q 0 ∧
      commandResult 0x3 a (BitVec.ofNat 24 (2 ^ k.toNat)) = .ok r r ∧
      commandResult 0x4 a (BitVec.ofNat 24 (2 ^ k.toNat - 1)) = .ok r 0
end

