-- ==== Sys2Proof/Laws/Decode.lean ====
section
/-! SUPPORT. The bits and the fields of a command word (R40). -/

namespace Sys2Proof

/-- R40: bit `k` of the command word, field by field. -/
theorem getLsbD_commandWord (op : Opcode) (a b : Word) (k : Nat) :
    (commandWord op a b).getLsbD k =
      if k < 24 then b.getLsbD k else if k < 48 then a.getLsbD (k - 24) else op.getLsbD (k - 48) := by
  change ((op ++ a ++ b : BitVec (4 + 24 + 24))).getLsbD k = _
  rw [BitVec.getLsbD_append, BitVec.getLsbD_append]
  by_cases h : k < 24
  · simp [h]
  · by_cases h' : k < 48
    · simp [h, h', show k - 24 < 24 by omega]
    · simp [h, h', show ¬k - 24 < 24 by omega, show k - 24 - 24 = k - 48 by omega]

@[simp] theorem opField_commandWord (op : Opcode) (a b : Word) : opField (commandWord op a b) = op := by
  apply BitVec.eq_of_getLsbD_eq
  intro k hk
  simp [opField, getLsbD_commandWord, hk, show ¬48 + k < 24 by omega]

@[simp] theorem aField_commandWord (op : Opcode) (a b : Word) : aField (commandWord op a b) = a := by
  apply BitVec.eq_of_getLsbD_eq
  intro k hk
  simp [aField, getLsbD_commandWord, hk, show 24 + k < 48 by omega]

@[simp] theorem bField_commandWord (op : Opcode) (a b : Word) : bField (commandWord op a b) = b := by
  apply BitVec.eq_of_getLsbD_eq
  intro k hk
  simp [bField, getLsbD_commandWord, hk]

end Sys2Proof
end

