-- ==== Sys2Proof/Laws/Operands.lean ====
section
/-! SUPPORT. What the operand forms read (R41, R67, R74). -/

namespace Sys2Proof.Machine

@[simp] theorem shiftAmount_eq (b : Word) : shiftAmount b = b.toNat := rfl

theorem divisorIsZero_iff (b : Word) : divisorIsZero b = true ↔ b = 0 := by
  simp [divisorIsZero, ← BitVec.toNat_inj]

theorem divisorIsZero_eq_false_iff (b : Word) : divisorIsZero b = false ↔ b ≠ 0 := by
  simp [divisorIsZero, ← BitVec.toNat_inj]

end Sys2Proof.Machine
end

