-- ==== Sys2Proof/Laws/State.lean ====
section
/-! SUPPORT. What each update of the state does to each field: one lemma per field per update, true by
unfolding, so that no proof unfolds a record update. -/

namespace Sys2Proof.Machine

/-! The fields after `State.clockEdge`. -/

@[simp] theorem State.clockEdge_op (s : State) : s.clockEdge.op = s.op := rfl
@[simp] theorem State.clockEdge_a (s : State) : s.clockEdge.a = s.a := rfl
@[simp] theorem State.clockEdge_b (s : State) : s.clockEdge.b = s.b := rfl
@[simp] theorem State.clockEdge_y (s : State) : s.clockEdge.y = s.y := rfl
@[simp] theorem State.clockEdge_r (s : State) : s.clockEdge.r = s.r := rfl
@[simp] theorem State.clockEdge_busy (s : State) : s.clockEdge.busy = s.busy := rfl
@[simp] theorem State.clockEdge_done (s : State) : s.clockEdge.done = s.done := rfl
@[simp] theorem State.clockEdge_err (s : State) : s.clockEdge.err = s.err := rfl
@[simp] theorem State.clockEdge_cause (s : State) : s.clockEdge.cause = s.cause := rfl
@[simp] theorem State.clockEdge_edges (s : State) : s.clockEdge.edges = s.edges.tail := rfl
@[simp] theorem State.clockEdge_wasReset (s : State) : s.clockEdge.wasReset = s.wasReset := rfl
@[simp] theorem State.clockEdge_draws (s : State) : s.clockEdge.draws = s.draws := rfl
@[simp] theorem State.clockEdge_faultMark (s : State) : s.clockEdge.faultMark = s.faultMark := rfl

/-! The fields after `State.markAccepted`. -/

@[simp] theorem State.markAccepted_op (s : State) : s.markAccepted.op = s.op := rfl
@[simp] theorem State.markAccepted_a (s : State) : s.markAccepted.a = s.a := rfl
@[simp] theorem State.markAccepted_b (s : State) : s.markAccepted.b = s.b := rfl
@[simp] theorem State.markAccepted_y (s : State) : s.markAccepted.y = s.y := rfl
@[simp] theorem State.markAccepted_r (s : State) : s.markAccepted.r = s.r := rfl
@[simp] theorem State.markAccepted_busy (s : State) : s.markAccepted.busy = true := rfl
@[simp] theorem State.markAccepted_done (s : State) : s.markAccepted.done = false := rfl
@[simp] theorem State.markAccepted_err (s : State) : s.markAccepted.err = false := rfl
@[simp] theorem State.markAccepted_cause (s : State) : s.markAccepted.cause = 0 := rfl
@[simp] theorem State.markAccepted_edges (s : State) : s.markAccepted.edges = s.edges := rfl
@[simp] theorem State.markAccepted_wasReset (s : State) : s.markAccepted.wasReset = s.wasReset := rfl
@[simp] theorem State.markAccepted_draws (s : State) : s.markAccepted.draws = s.draws := rfl
@[simp] theorem State.markAccepted_faultMark (s : State) : s.markAccepted.faultMark = s.faultMark := rfl

/-! The fields after `State.markSucceeded`. -/

@[simp] theorem State.markSucceeded_op (s : State) : s.markSucceeded.op = s.op := rfl
@[simp] theorem State.markSucceeded_a (s : State) : s.markSucceeded.a = s.a := rfl
@[simp] theorem State.markSucceeded_b (s : State) : s.markSucceeded.b = s.b := rfl
@[simp] theorem State.markSucceeded_y (s : State) : s.markSucceeded.y = s.y := rfl
@[simp] theorem State.markSucceeded_r (s : State) : s.markSucceeded.r = s.r := rfl
@[simp] theorem State.markSucceeded_busy (s : State) : s.markSucceeded.busy = false := rfl
@[simp] theorem State.markSucceeded_done (s : State) : s.markSucceeded.done = true := rfl
@[simp] theorem State.markSucceeded_err (s : State) : s.markSucceeded.err = false := rfl
@[simp] theorem State.markSucceeded_cause (s : State) : s.markSucceeded.cause = 0 := rfl
@[simp] theorem State.markSucceeded_edges (s : State) : s.markSucceeded.edges = s.edges := rfl
@[simp] theorem State.markSucceeded_wasReset (s : State) : s.markSucceeded.wasReset = s.wasReset := rfl
@[simp] theorem State.markSucceeded_draws (s : State) : s.markSucceeded.draws = s.draws := rfl
@[simp] theorem State.markSucceeded_faultMark (s : State) : s.markSucceeded.faultMark = s.faultMark := rfl

/-! The fields after `State.markFaulted`. -/

@[simp] theorem State.markFaulted_op (s : State) (c : Cause) : (s.markFaulted c).op = s.op := rfl
@[simp] theorem State.markFaulted_a (s : State) (c : Cause) : (s.markFaulted c).a = s.a := rfl
@[simp] theorem State.markFaulted_b (s : State) (c : Cause) : (s.markFaulted c).b = s.b := rfl
@[simp] theorem State.markFaulted_y (s : State) (c : Cause) : (s.markFaulted c).y = s.y := rfl
@[simp] theorem State.markFaulted_r (s : State) (c : Cause) : (s.markFaulted c).r = s.r := rfl
@[simp] theorem State.markFaulted_busy (s : State) (c : Cause) : (s.markFaulted c).busy = false := rfl
@[simp] theorem State.markFaulted_done (s : State) (c : Cause) : (s.markFaulted c).done = true := rfl
@[simp] theorem State.markFaulted_err (s : State) (c : Cause) : (s.markFaulted c).err = true := rfl
@[simp] theorem State.markFaulted_cause (s : State) (c : Cause) : (s.markFaulted c).cause = c.code := rfl
@[simp] theorem State.markFaulted_edges (s : State) (c : Cause) : (s.markFaulted c).edges = s.edges := rfl
@[simp] theorem State.markFaulted_wasReset (s : State) (c : Cause) : (s.markFaulted c).wasReset = s.wasReset := rfl
@[simp] theorem State.markFaulted_draws (s : State) (c : Cause) : (s.markFaulted c).draws = s.draws := rfl
@[simp] theorem State.markFaulted_faultMark (s : State) (c : Cause) : (s.markFaulted c).faultMark = true := rfl

/-! The fields after `State.resetStep`. -/

@[simp] theorem State.resetStep_op (s : State) : s.resetStep.op = 0 := rfl
@[simp] theorem State.resetStep_a (s : State) : s.resetStep.a = 0 := rfl
@[simp] theorem State.resetStep_b (s : State) : s.resetStep.b = 0 := rfl
@[simp] theorem State.resetStep_y (s : State) : s.resetStep.y = 0 := rfl
@[simp] theorem State.resetStep_r (s : State) : s.resetStep.r = 0 := rfl
@[simp] theorem State.resetStep_busy (s : State) : s.resetStep.busy = false := rfl
@[simp] theorem State.resetStep_done (s : State) : s.resetStep.done = false := rfl
@[simp] theorem State.resetStep_err (s : State) : s.resetStep.err = false := rfl
@[simp] theorem State.resetStep_cause (s : State) : s.resetStep.cause = 0 := rfl
@[simp] theorem State.resetStep_edges (s : State) : s.resetStep.edges = s.edges := rfl
@[simp] theorem State.resetStep_wasReset (s : State) : s.resetStep.wasReset = true := rfl
@[simp] theorem State.resetStep_draws (s : State) : s.resetStep.draws = s.draws := rfl
@[simp] theorem State.resetStep_faultMark (s : State) : s.resetStep.faultMark = s.faultMark := rfl

/-! The fields after `State.acceptStep`. -/

@[simp] theorem State.acceptStep_op (s : State) (p : Edge) : (s.acceptStep p).op = p.op := rfl
@[simp] theorem State.acceptStep_a (s : State) (p : Edge) : (s.acceptStep p).a = p.a := rfl
@[simp] theorem State.acceptStep_b (s : State) (p : Edge) : (s.acceptStep p).b = p.b := rfl
@[simp] theorem State.acceptStep_y (s : State) (p : Edge) : (s.acceptStep p).y = s.y := rfl
@[simp] theorem State.acceptStep_r (s : State) (p : Edge) : (s.acceptStep p).r = s.r := rfl
@[simp] theorem State.acceptStep_busy (s : State) (p : Edge) : (s.acceptStep p).busy = true := rfl
@[simp] theorem State.acceptStep_done (s : State) (p : Edge) : (s.acceptStep p).done = false := rfl
@[simp] theorem State.acceptStep_err (s : State) (p : Edge) : (s.acceptStep p).err = false := rfl
@[simp] theorem State.acceptStep_cause (s : State) (p : Edge) : (s.acceptStep p).cause = 0 := rfl
@[simp] theorem State.acceptStep_edges (s : State) (p : Edge) : (s.acceptStep p).edges = s.edges := rfl
@[simp] theorem State.acceptStep_wasReset (s : State) (p : Edge) : (s.acceptStep p).wasReset = s.wasReset := rfl
@[simp] theorem State.acceptStep_draws (s : State) (p : Edge) : (s.acceptStep p).draws = s.draws := rfl
@[simp] theorem State.acceptStep_faultMark (s : State) (p : Edge) : (s.acceptStep p).faultMark = s.faultMark := rfl

/-! The fields after `State.succeed`. -/

@[simp] theorem State.succeed_op (s : State) (y r : Word) : (s.succeed y r).op = s.op := rfl
@[simp] theorem State.succeed_a (s : State) (y r : Word) : (s.succeed y r).a = s.a := rfl
@[simp] theorem State.succeed_b (s : State) (y r : Word) : (s.succeed y r).b = s.b := rfl
@[simp] theorem State.succeed_y (s : State) (y r : Word) : (s.succeed y r).y = y := rfl
@[simp] theorem State.succeed_r (s : State) (y r : Word) : (s.succeed y r).r = r := rfl
@[simp] theorem State.succeed_busy (s : State) (y r : Word) : (s.succeed y r).busy = false := rfl
@[simp] theorem State.succeed_done (s : State) (y r : Word) : (s.succeed y r).done = true := rfl
@[simp] theorem State.succeed_err (s : State) (y r : Word) : (s.succeed y r).err = false := rfl
@[simp] theorem State.succeed_cause (s : State) (y r : Word) : (s.succeed y r).cause = 0 := rfl
@[simp] theorem State.succeed_edges (s : State) (y r : Word) : (s.succeed y r).edges = s.edges := rfl
@[simp] theorem State.succeed_wasReset (s : State) (y r : Word) : (s.succeed y r).wasReset = s.wasReset := rfl
@[simp] theorem State.succeed_draws (s : State) (y r : Word) : (s.succeed y r).draws = s.draws := rfl
@[simp] theorem State.succeed_faultMark (s : State) (y r : Word) : (s.succeed y r).faultMark = s.faultMark := rfl

/-! The fields after `State.takeFault`. -/

@[simp] theorem State.takeFault_op (s : State) (c : Cause) : (s.takeFault c).op = s.op := rfl
@[simp] theorem State.takeFault_a (s : State) (c : Cause) : (s.takeFault c).a = s.a := rfl
@[simp] theorem State.takeFault_b (s : State) (c : Cause) : (s.takeFault c).b = s.b := rfl
@[simp] theorem State.takeFault_y (s : State) (c : Cause) : (s.takeFault c).y = Config.freeWord s.draws := rfl
@[simp] theorem State.takeFault_r (s : State) (c : Cause) : (s.takeFault c).r = Config.freeWord (s.draws + 1) := rfl
@[simp] theorem State.takeFault_busy (s : State) (c : Cause) : (s.takeFault c).busy = false := rfl
@[simp] theorem State.takeFault_done (s : State) (c : Cause) : (s.takeFault c).done = true := rfl
@[simp] theorem State.takeFault_err (s : State) (c : Cause) : (s.takeFault c).err = true := rfl
@[simp] theorem State.takeFault_cause (s : State) (c : Cause) : (s.takeFault c).cause = c.code := rfl
@[simp] theorem State.takeFault_edges (s : State) (c : Cause) : (s.takeFault c).edges = s.edges := rfl
@[simp] theorem State.takeFault_wasReset (s : State) (c : Cause) : (s.takeFault c).wasReset = s.wasReset := rfl
@[simp] theorem State.takeFault_draws (s : State) (c : Cause) : (s.takeFault c).draws = s.draws + 2 := rfl
@[simp] theorem State.takeFault_faultMark (s : State) (c : Cause) : (s.takeFault c).faultMark = true := rfl

/-! The fields after `State.withCommandDue`. -/

@[simp] theorem State.withCommandDue_op (s : State) (w : CommandWord) : (s.withCommandDue w).op = opField w := rfl
@[simp] theorem State.withCommandDue_a (s : State) (w : CommandWord) : (s.withCommandDue w).a = aField w := rfl
@[simp] theorem State.withCommandDue_b (s : State) (w : CommandWord) : (s.withCommandDue w).b = bField w := rfl
@[simp] theorem State.withCommandDue_y (s : State) (w : CommandWord) : (s.withCommandDue w).y = s.y := rfl
@[simp] theorem State.withCommandDue_r (s : State) (w : CommandWord) : (s.withCommandDue w).r = s.r := rfl
@[simp] theorem State.withCommandDue_busy (s : State) (w : CommandWord) : (s.withCommandDue w).busy = true := rfl
@[simp] theorem State.withCommandDue_done (s : State) (w : CommandWord) : (s.withCommandDue w).done = false := rfl
@[simp] theorem State.withCommandDue_err (s : State) (w : CommandWord) : (s.withCommandDue w).err = false := rfl
@[simp] theorem State.withCommandDue_cause (s : State) (w : CommandWord) : (s.withCommandDue w).cause = 0 := rfl
@[simp] theorem State.withCommandDue_edges (s : State) (w : CommandWord) : (s.withCommandDue w).edges = Edge.quiet :: s.edges := rfl
@[simp] theorem State.withCommandDue_wasReset (s : State) (w : CommandWord) : (s.withCommandDue w).wasReset = true := rfl
@[simp] theorem State.withCommandDue_draws (s : State) (w : CommandWord) : (s.withCommandDue w).draws = s.draws := rfl
@[simp] theorem State.withCommandDue_faultMark (s : State) (w : CommandWord) : (s.withCommandDue w).faultMark = s.faultMark := rfl

/-! The registers tuple after each update. -/

@[simp] theorem State.clockEdge_registers (s : State) : s.clockEdge.registers = s.registers := rfl
@[simp] theorem State.resetStep_registers (s : State) :
    s.resetStep.registers = ⟨0, 0, 0, 0, 0, false, false, false, 0⟩ := rfl
@[simp] theorem State.acceptStep_registers (s : State) (p : Edge) :
    (s.acceptStep p).registers = ⟨p.op, p.a, p.b, s.y, s.r, true, false, false, 0⟩ := rfl
@[simp] theorem State.succeed_registers (s : State) (y r : Word) :
    (s.succeed y r).registers = ⟨s.op, s.a, s.b, y, r, false, true, false, 0⟩ := rfl

end Sys2Proof.Machine
end

