-- ==== Sys2Proof/Laws/Ops.lean ====
section
/-! SUPPORT. What the shared operations can do: which step an edge makes, said once, and the two ways a command
completes. -/

namespace Sys2Proof.Machine

theorem State.stepKind_reset {s : State} (h : s.nextEdge.rst = true) : s.stepKind = .reset := by
  simp [State.stepKind, h]

theorem State.stepKind_notYetReset {s : State} (h : s.nextEdge.rst = false) (w : s.wasReset = false) :
    s.stepKind = .notYetReset := by
  simp [State.stepKind, h, w]

theorem State.stepKind_accept {s : State} (h : s.nextEdge.rst = false) (w : s.wasReset = true)
    (b : s.busy = false) (st : s.nextEdge.start = true) : s.stepKind = .accept := by
  simp [State.stepKind, h, w, b, st]

theorem State.stepKind_complete {s : State} (h : s.nextEdge.rst = false) (w : s.wasReset = true)
    (b : s.busy = true) (e : s.nextEdge.elapsed = true) : s.stepKind = .complete := by
  simp [State.stepKind, h, w, b, e]

theorem State.stepKind_wait {s : State} (h : s.nextEdge.rst = false) (w : s.wasReset = true)
    (b : s.busy = true) (e : s.nextEdge.elapsed = false) : s.stepKind = .idle := by
  simp [State.stepKind, h, w, b, e]

theorem State.stepKind_silent {s : State} (h : s.nextEdge.rst = false) (w : s.wasReset = true)
    (b : s.busy = false) (st : s.nextEdge.start = false) : s.stepKind = .idle := by
  simp [State.stepKind, h, w, b, st]

/-- What the kind of a step says of the state before it. -/
theorem State.stepKind_cases (s : State) :
    (s.stepKind = .reset ∧ s.nextEdge.rst = true) ∨
    (s.stepKind = .notYetReset ∧ s.nextEdge.rst = false ∧ s.wasReset = false) ∨
    (s.stepKind = .accept ∧ s.nextEdge.rst = false ∧ s.wasReset = true ∧ s.busy = false ∧ s.nextEdge.start = true) ∨
    (s.stepKind = .complete ∧ s.nextEdge.rst = false ∧ s.wasReset = true ∧ s.busy = true ∧
      s.nextEdge.elapsed = true) ∨
    (s.stepKind = .idle ∧ s.nextEdge.rst = false ∧ s.wasReset = true ∧
      ((s.busy = true ∧ s.nextEdge.elapsed = false) ∨ (s.busy = false ∧ s.nextEdge.start = false))) := by
  unfold State.stepKind
  cases s.nextEdge.rst <;> cases s.wasReset <;> cases s.busy <;> cases s.nextEdge.elapsed <;>
    cases s.nextEdge.start <;> simp

/-- The inversion of a step that answers a next state: one of the four steps happened. -/
theorem step_cases {s t : State} (h : step s = .next t) :
    (s.stepKind = .reset ∧ t = s.clockEdge.resetStep) ∨
    (s.stepKind = .accept ∧ t = s.clockEdge.acceptStep s.nextEdge) ∨
    (s.stepKind = .complete ∧ exec (decode s.latched) s.clockEdge = .next t) ∨
    (s.stepKind = .idle ∧ t = s.clockEdge) := by
  unfold step at h
  cases k : s.stepKind <;> simp only [k] at h <;> simp_all

theorem State.complete_ok (s : State) (y r : Word) : s.complete (.ok y r) = s.succeed y r := rfl

theorem State.complete_fault (s : State) (c : Cause) : s.complete (.fault c) = s.takeFault c := rfl

/-- A completion ends the command and keeps the latched command, the coming edges and the reset mark. -/
theorem State.complete_frame (s : State) (o : Result) :
    s.sameCommand (s.complete o) ∧ (s.complete o).edges = s.edges ∧ (s.complete o).wasReset = s.wasReset ∧
      (s.complete o).busy = false ∧ (s.complete o).done = true := by
  cases o <;> simp [State.complete, State.sameCommand]

/-- Every command's meaning is one completion, so it answers a next state. -/
theorem exec_completes (i : Instr) (s : State) : ∃ o, exec i s = .next (s.complete o) := by
  cases i <;> exact ⟨_, rfl⟩

end Sys2Proof.Machine
end

