-- ==== Sys2Proof/Laws/PerInstr.lean ====
section
/-! SUPPORT. Statements made for every command, proved constructor by constructor: the three fields of a command's
word are the command's own (R40). -/

namespace Sys2Proof.Laws

/-- R40: the fields read back from a command's word are the command's opcode and operands. -/
def FieldsEncoded.Statement (i : Instr) : Prop :=
  opField (encode i) = i.opcode ∧ aField (encode i) = i.opA ∧ bField (encode i) = i.opB

/-- The shared argument: a command word gives back the three fields it was put together from. -/
theorem fieldsEncoded (i : Instr) : FieldsEncoded.Statement i :=
  ⟨opField_commandWord .., aField_commandWord .., bField_commandWord ..⟩

theorem FieldsEncoded.mul (a b : Word) : FieldsEncoded.Statement (.mul a b) := fieldsEncoded _
theorem FieldsEncoded.div (a b : Word) : FieldsEncoded.Statement (.div a b) := fieldsEncoded _
theorem FieldsEncoded.mod (a b : Word) : FieldsEncoded.Statement (.mod a b) := fieldsEncoded _
theorem FieldsEncoded.and (a b : Word) : FieldsEncoded.Statement (.and a b) := fieldsEncoded _
theorem FieldsEncoded.or (a b : Word) : FieldsEncoded.Statement (.or a b) := fieldsEncoded _
theorem FieldsEncoded.xor (a b : Word) : FieldsEncoded.Statement (.xor a b) := fieldsEncoded _
theorem FieldsEncoded.not (a b : Word) : FieldsEncoded.Statement (.not a b) := fieldsEncoded _
theorem FieldsEncoded.shl (a b : Word) : FieldsEncoded.Statement (.shl a b) := fieldsEncoded _
theorem FieldsEncoded.shr (a b : Word) : FieldsEncoded.Statement (.shr a b) := fieldsEncoded _
theorem FieldsEncoded.reserved0 (a b : Word) : FieldsEncoded.Statement (.reserved0 a b) := fieldsEncoded _
theorem FieldsEncoded.reservedA (a b : Word) : FieldsEncoded.Statement (.reservedA a b) := fieldsEncoded _
theorem FieldsEncoded.reservedB (a b : Word) : FieldsEncoded.Statement (.reservedB a b) := fieldsEncoded _
theorem FieldsEncoded.reservedC (a b : Word) : FieldsEncoded.Statement (.reservedC a b) := fieldsEncoded _
theorem FieldsEncoded.reservedD (a b : Word) : FieldsEncoded.Statement (.reservedD a b) := fieldsEncoded _
theorem FieldsEncoded.reservedE (a b : Word) : FieldsEncoded.Statement (.reservedE a b) := fieldsEncoded _
theorem FieldsEncoded.reservedF (a b : Word) : FieldsEncoded.Statement (.reservedF a b) := fieldsEncoded _

end Sys2Proof.Laws
end

