-- ==== Sys2Proof/Tests/Slice0.lean ====
section
/-! SUPPORT. Small tests whose expected results come from spec/95_test_vectors.md or the rule named, and one witness
for the hypotheses of each statement. -/

namespace Sys2Proof.Tests

open Sys2Proof Sys2Proof.Machine

/-! ## The range checks refuse what is ill formed -/

theorem test_opcode_of_five_bits_refused : commandFits 16 0 0 = false := by decide
theorem test_first_operand_of_25_bits_refused : commandFits 1 16777216 0 = false := by decide
theorem test_second_operand_of_25_bits_refused : commandFits 1 0 16777216 = false := by decide
theorem test_largest_command_accepted : commandFits 15 16777215 16777215 = true := by decide
theorem test_word_of_53_bits_refused : decodeNat 0x10000000000000 = .error .tooWide := by decide
theorem test_table_word_of_53_bits_refused : decodeTableWord 56 0x10000000000000 = none := by decide

/-! ## Decoding: words written out from R40 and R42 -/

theorem test_decode_mul_bits :
    decode 0b0001000000000000000001100100000000000000000000000011 = .mul 100 3 := by decide
theorem test_decode_div_bits :
    decode 0b0010000000000000000001100100000000000000000000000011 = .div 100 3 := by decide
theorem test_decode_xor_bits :
    decode 0b0110000000000000000000001010000000000000000000000110 = .xor 10 6 := by decide
theorem test_decode_not_bits :
    decode 0b0111000000000000000000000001100000000000000000000000 = .not 1 0x800000 := by decide
theorem test_decode_shr_bits :
    decode 0b1001100000000000000000000001000000000000000000010111 = .shr 0x800001 23 := by decide
theorem test_decode_reservedA_bits :
    decode 0b1010000000000000000000000001000000000000000000000010 = .reservedA 1 2 := by decide
theorem test_decode_mod : decode 0x3000064000003 = .mod 100 3 := by decide
theorem test_decode_and : decode 0x400000A000006 = .and 10 6 := by decide
theorem test_decode_or : decode 0x500000A000006 = .or 10 6 := by decide
theorem test_decode_shl : decode 0x8000001000004 = .shl 1 4 := by decide
theorem test_decode_reserved0 : decode 0x0000064000003 = .reserved0 100 3 := by decide
theorem test_decode_reservedB : decode 0xB000001000000 = .reservedB 1 0 := by decide
theorem test_decode_reservedC : decode 0xC000001000002 = .reservedC 1 2 := by decide
theorem test_decode_reservedD : decode 0xD000001000002 = .reservedD 1 2 := by decide
theorem test_decode_reservedE : decode 0xE000001000002 = .reservedE 1 2 := by decide
theorem test_decode_reservedF : decode 0xFFFFFFFFFFFFF = .reservedF 0xFFFFFF 0xFFFFFF := by decide
/-- R40's own example: `MUL 100, 3`. -/
theorem test_encode_mul : encode (.mul 100 3) = 0x1000064000003 := by decide

/-! ## One command each, by its word, as the first step after reset -/

/-- The registers after the command with word `w` has completed. -/
def after (w : Nat) : Option Registers :=
  match step (State.reset.withFetchWord 56 w) with
  | .next t => some t.registers
  | _ => none

/-- `done`, `err` and `cause` after the command with word `w` has completed. -/
def statusAfter (w : Nat) : Option (Bool × Bool × BitVec 2) :=
  (after w).map fun g => (g.done, g.err, g.cause)

theorem test_mul_wraps : after 0x1001388001388 = some ⟨1, 0x001388, 0x001388, 0x7D7840, 0, false, true, false, 0⟩ := by
  decide
theorem test_mul_largest :
    after 0x1FFFFFFFFFFFF = some ⟨1, 0xFFFFFF, 0xFFFFFF, 1, 0, false, true, false, 0⟩ := by decide
theorem test_div : after 0x2ABCDEF00CAFE = some ⟨2, 0xABCDEF, 0x00CAFE, 0xD8, 0x879F, false, true, false, 0⟩ := by decide
theorem test_div_by_zero : statusAfter 0x2000000000000 = some (true, true, 1) := by decide
theorem test_mod : after 0x3ABCDEF000100 = some ⟨3, 0xABCDEF, 0x100, 0xEF, 0xEF, false, true, false, 0⟩ := by decide
theorem test_mod_by_zero : statusAfter 0x3000005000000 = some (true, true, 1) := by decide
theorem test_and : after 0x4ABCDEF00FF00 = some ⟨4, 0xABCDEF, 0xFF00, 0x00CD00, 0, false, true, false, 0⟩ := by decide
theorem test_or : after 0x5ABCDEF00FF00 = some ⟨5, 0xABCDEF, 0xFF00, 0xABFFEF, 0, false, true, false, 0⟩ := by decide
theorem test_xor : after 0x6ABCDEF00FF00 = some ⟨6, 0xABCDEF, 0xFF00, 0xAB32EF, 0, false, true, false, 0⟩ := by decide
theorem test_not_ignores_b :
    after 0x7ABCDEF123456 = some ⟨7, 0xABCDEF, 0x123456, 0x543210, 0, false, true, false, 0⟩ := by decide
theorem test_shl_by_23 : after 0x8000003000017 = some ⟨8, 3, 23, 0x800000, 0, false, true, false, 0⟩ := by decide
theorem test_shl_by_24 : after 0x8FFFFFF000018 = some ⟨8, 0xFFFFFF, 24, 0, 0, false, true, false, 0⟩ := by decide
theorem test_shr_zero_fills :
    after 0x9FFFFFF000001 = some ⟨9, 0xFFFFFF, 1, 0x7FFFFF, 0, false, true, false, 0⟩ := by decide
theorem test_shr_by_32 : after 0x9FFFFFF000020 = some ⟨9, 0xFFFFFF, 32, 0, 0, false, true, false, 0⟩ := by decide
theorem test_reserved0 : statusAfter 0x0000000000000 = some (true, true, 2) := by decide
theorem test_reservedA : statusAfter 0xA000001000002 = some (true, true, 2) := by decide
/-- R78: a zero second operand does not make it `DivisionByZero`. -/
theorem test_reservedB : statusAfter 0xB000001000000 = some (true, true, 2) := by decide
theorem test_reservedC : statusAfter 0xC000001000002 = some (true, true, 2) := by decide
theorem test_reservedD : statusAfter 0xD000001000002 = some (true, true, 2) := by decide
theorem test_reservedE : statusAfter 0xE000001000002 = some (true, true, 2) := by decide
theorem test_reservedF : statusAfter 0xFFFFFFFFFFFFF = some (true, true, 2) := by decide

/-! ## The four steps, on rows of Program 5 -/

/-- The state after reset with the host's next edges. -/
def facing (edges : List Edge) : State := { State.reset with edges := edges }

/-- The registers after one step. -/
def registersAfter (s : State) : Option Registers :=
  match step s with
  | .next t => some t.registers
  | _ => none

/-- `NOT 0` in flight, with `Y` still holding an earlier result, and the host's next edges. -/
def notInFlight (edges : List Edge) : State :=
  { State.reset with op := 7, y := 0xF0F0F0, busy := true, edges := edges }

/-- Before the first reset, with the host's next edges. -/
def justPoweredOn (edges : List Edge) : State :=
  { State.reset with op := 5, y := 9, busy := true, done := true, wasReset := false, edges := edges }

theorem test_accept : registersAfter (facing [Edge.issue (.xor 0x0F0F0F 0xFFFFFF)]) =
    some ⟨6, 0x0F0F0F, 0xFFFFFF, 0, 0, true, false, false, 0⟩ := by decide
theorem test_start_while_busy_is_lost :
    registersAfter (notInFlight [{ Edge.issue (.mul 2 2) with elapsed := false }]) =
      some ⟨7, 0, 0, 0xF0F0F0, 0, true, false, false, 0⟩ := by decide
theorem test_reset_in_mid_command :
    registersAfter (notInFlight [{ Edge.issue (.and 1 1) with rst := true }]) =
      some ⟨0, 0, 0, 0, 0, false, false, false, 0⟩ := by decide
theorem test_edge_before_first_reset_refused :
    step (justPoweredOn []) = .refused .beforeFirstReset := rfl

/-! ## The datapath, on the traces of R51, R56, R69 and R71 -/

theorem test_mulAlgorithm_wrap_is_no_stop : mulAlgorithm 0xC00000 3 = 0x400000 := by decide
theorem test_mulSequence : mulSequence 100 5 = [(1, 100), (2, 200), (4, 400)] := by decide
theorem test_divmodAlgorithm : divmodAlgorithm 100 3 = (33, 1) := by decide
theorem test_divmodAlgorithm_overflow_exit : divmodAlgorithm 0xFFFFFF 0x800000 = (1, 0x7FFFFF) := by decide
set_option maxRecDepth 4000 in
theorem test_shlAlgorithm_discard_walk : shlAlgorithm 0x800001 1 = 2 := by decide
set_option maxRecDepth 4000 in
theorem test_shrAlgorithm : shrAlgorithm 16 4 = 1 := by decide

/-! ## The assembler notation of R47 -/

theorem test_assemble_alias : assemble none "bitwise_xor 0x0A, 0b0110 ; comment".toList = .ok (some (.xor 10 6)) := by
  decide
theorem test_assemble_not : assemble (some (5, 6)) "NOT %y".toList = .ok (some (.not 5 0)) := by decide
theorem test_assemble_out_of_range : assemble none "MUL 16777216, 1".toList = .error .outOfRange := by decide
theorem test_assemble_no_pseudo : assemble none "NOP 1, 1".toList = .error .unknownMnemonic := by decide

/-! ## Witnesses: each statement's hypotheses can be met -/

/-- A multiplication latched and due at the next edge. -/
def mulDue : State := State.reset.withCommandDue 0x1000064000003

theorem witness_AcceptLatchesTheCommand : ∃ s : State,
    s.wasReset = true ∧ s.nextEdge.rst = false ∧ s.busy = false ∧ s.nextEdge.start = true :=
  ⟨facing [Edge.issue (.mul 2 3)], by decide⟩
theorem witness_IdleChangesNoRegister_idle : ∃ s : State,
    s.wasReset = true ∧ s.nextEdge.rst = false ∧ s.busy = false ∧ s.nextEdge.start = false :=
  ⟨facing [], by decide⟩
theorem witness_IdleChangesNoRegister_busy : ∃ s : State,
    s.wasReset = true ∧ s.nextEdge.rst = false ∧ s.busy = true ∧ s.nextEdge.elapsed = false :=
  ⟨notInFlight [Edge.wait], by decide⟩
theorem witness_DueStepRunsLatchedCommand : ∃ s : State, s.wasReset = true ∧ s.nextEdge.rst = false ∧
    s.busy = true ∧ s.nextEdge.elapsed = true ∧ decode s.latched = .mul 100 3 :=
  ⟨mulDue, by decide⟩
theorem witness_CompleteWritesOutcomeOfExec : ∃ s : State, s.wasReset = true ∧ s.nextEdge.rst = false ∧
    s.busy = true ∧ s.nextEdge.elapsed = true ∧ commandResult s.op s.a s.b = .fault .divisionByZero :=
  ⟨State.reset.withCommandDue 0x2000005000000, by decide⟩
theorem witness_EveryEdgeAfterResetHasAStep : State.reset.wasReset = true := rfl
theorem witness_NothingHoldsBeforeFirstReset : ∃ s t : State, s.wasReset = false ∧ s.nextEdge.rst = false ∧
    t.wasReset = false ∧ t.nextEdge.rst = true :=
  ⟨justPoweredOn [], justPoweredOn [Edge.resetting], by decide⟩
theorem witness_ResetClearsEveryRegister : ∃ s : State, s.nextEdge.rst = true ∧ s.busy = true :=
  ⟨notInFlight [Edge.resetting], by decide⟩
theorem witness_ResetBeatsEveryOtherInput : ∃ p q : Edge, p.rst = true ∧ q.rst = true ∧ p ≠ q :=
  ⟨Edge.resetting, { Edge.issue (.mul 2 3) with rst := true }, by decide⟩
theorem witness_OperandPortsReadOnlyAtAccept_busy : ∃ (s : State) (p q : Edge), p ≠ q ∧ p.rst = q.rst ∧
    s.busy = true ∧ p.elapsed = q.elapsed :=
  ⟨mulDue, Edge.issue (.mul 2 3), Edge.quiet, by decide⟩
theorem witness_OperandPortsReadOnlyAtAccept_idle : ∃ (s : State) (p q : Edge), p ≠ q ∧ p.rst = q.rst ∧
    s.busy = false ∧ p.start = false ∧ q.start = false :=
  ⟨State.reset, { Edge.quiet with a := 7 }, Edge.quiet, by decide⟩
theorem witness_AssemblerChecksLiteralRange_outside : literal "16777216".toList = some 16777216 := by decide
theorem witness_AssemblerChecksLiteralRange_inside : literal "0xFFFFFF".toList = some 16777215 := by decide
theorem witness_next_step : ∃ s t : State, step s = .next t ∧ s.nextEdge.rst = false ∧ s.legalStatus ∧
    s.describesCommand :=
  ⟨mulDue, _, rfl, rfl, by unfold State.legalStatus; decide, fun h => absurd h (by decide)⟩
theorem witness_FaultMarkIsNeverCleared : ∃ s t : State, step s = .next t ∧ s.err = false ∧ t.err = true :=
  ⟨State.reset.withCommandDue 0, _, rfl, rfl, rfl⟩
theorem witness_exec_next_without_fault : ∃ (i : Instr) (s t : State), exec i s = .next t ∧ t.err = false :=
  ⟨.div 5 1, State.reset, _, rfl, rfl⟩
theorem witness_exec_next_with_fault : ∃ (i : Instr) (s t : State), exec i s = .next t ∧ t.err = true :=
  ⟨.div 5 0, State.reset, _, rfl, rfl⟩
theorem witness_FaultIsClearedByNextAccept : ∃ (s : State) (p q : Edge) (i : Instr), s.wasReset = true ∧
    s.busy = true ∧ s.edges = [p, q] ∧ p.due ∧ q.presents i ∧
    commandResult s.op s.a s.b = .fault .illegalOp :=
  ⟨notInFlight [Edge.quiet, Edge.issue (.mul 2 3)] |> fun s => { s with op := 0xC }, Edge.quiet,
    Edge.issue (.mul 2 3), .mul 2 3, rfl, rfl, rfl, ⟨rfl, rfl⟩, ⟨rfl, rfl, rfl, rfl, rfl⟩, by decide⟩
theorem witness_OutcomeDependsOnCommandAlone : ∃ s₁ s₂ : State, s₁ ≠ s₂ ∧ s₁.sameCommand s₂ ∧
    s₁.wasReset = true ∧ s₁.busy = true ∧ s₁.nextEdge.due ∧
    s₂.wasReset = true ∧ s₂.busy = true ∧ s₂.nextEdge.due :=
  ⟨mulDue, { mulDue with y := 9, draws := 4, faultMark := true }, by decide, ⟨rfl, rfl, rfl⟩, rfl, rfl, ⟨rfl, rfl⟩,
    rfl, rfl, ⟨rfl, rfl⟩⟩
theorem witness_BusyBlockCompletesWhenDue : ∃ (s : State) (ws : List Edge) (p : Edge), s.wasReset = true ∧
    s.busy = true ∧ ws.length = 2 ∧ (∀ w ∈ ws, w.waiting) ∧ p.due ∧ s.edges = ws ++ p :: [] :=
  ⟨notInFlight [Edge.wait, Edge.wait, Edge.quiet], [Edge.wait, Edge.wait], Edge.quiet, rfl, rfl, rfl,
    by simp [Edge.waiting, Edge.wait, Edge.quiet], ⟨rfl, rfl⟩, rfl⟩
theorem witness_CommandCompletesWithinLatencyBound : ∃ (s : State) (ws : List Edge) (p : Edge),
    s.wasReset = true ∧ s.busy = true ∧ (∀ w ∈ ws, w.waiting) ∧ p.due ∧ s.edges = ws ++ p :: [] ∧
    ws.length + 1 = Config.latency s.op s.a s.b := by
  refine ⟨notInFlight (List.replicate (Config.latency 7 0 0 - 1) Edge.wait ++ [Edge.quiet]),
    List.replicate (Config.latency 7 0 0 - 1) Edge.wait, Edge.quiet, rfl, rfl, ?_, ⟨rfl, rfl⟩, rfl, ?_⟩
  · intro w hw
    rw [List.eq_of_mem_replicate hw]
    exact ⟨rfl, rfl⟩
  · simp only [List.length_replicate, notInFlight, State.reset, Config.latency]
    omega
theorem witness_HandshakeComputesExec : ∃ (s : State) (i : Instr) (q : Edge) (ws : List Edge) (p : Edge),
    s.wasReset = true ∧ s.busy = false ∧ q.presents i ∧ ws.length = 1 ∧ (∀ w ∈ ws, w.waiting) ∧ p.due ∧
    s.edges = q :: (ws ++ p :: []) :=
  ⟨facing [Edge.issue (.shl 1 4), Edge.wait, Edge.quiet], .shl 1 4, Edge.issue (.shl 1 4), [Edge.wait], Edge.quiet,
    rfl, rfl, ⟨rfl, rfl, rfl, rfl, rfl⟩, rfl, by simp [Edge.waiting, Edge.wait, Edge.quiet], ⟨rfl, rfl⟩, rfl⟩
theorem witness_LastCommandAloneIsVisible : ∃ s : State, s.wasReset = true ∧ s.busy = false ∧
    s.edges = Edge.program ([(.div 5 0, 0)] ++ [(.mul 2 3, 1)]) ++ [] :=
  ⟨facing (Edge.program [(.div 5 0, 0), (.mul 2 3, 1)]), rfl, rfl, by decide⟩
theorem witness_ResultsStayUntilNextAccept : ∃ (s : State) (ws : List Edge), s.wasReset = true ∧ s.busy = false ∧
    s.done = true ∧ ws.length = 1 ∧ (∀ w ∈ ws, w.silent) ∧ s.edges = ws ++ [] :=
  ⟨{ State.reset with y := 5, done := true, edges := [Edge.wait] }, [Edge.wait], rfl, rfl, rfl, rfl,
    by simp [Edge.silent, Edge.wait, Edge.quiet], rfl⟩
theorem witness_ResetAbandonsCommandInFlight : ∃ (s : State) (p : Edge) (ws : List Edge), s.busy = true ∧
    p.rst = true ∧ ws.length = 1 ∧ (∀ w ∈ ws, w.silent) ∧ s.edges = p :: (ws ++ []) :=
  ⟨notInFlight [Edge.resetting, Edge.quiet], Edge.resetting, [Edge.quiet], rfl, rfl, rfl,
    by simp [Edge.silent, Edge.quiet], rfl⟩
theorem witness_DatapathPrimitives_at_2_23 : ∃ x y : Word, y ≤ x ∧ x ≠ 0 ∧ x.toNat = 2 ^ 23 :=
  ⟨0x800000, 1, by decide⟩
theorem witness_MulSequencesEndAtTopBit_at_2 : ∃ b : Word, 2 ≤ b.toNat ∧ b.toNat < 3 := ⟨2, by decide⟩
theorem witness_DivSequences_less : ∃ a b : Word, b ≠ 0 ∧ a < b := ⟨4, 5, by decide⟩
theorem witness_DivSequences_equal : ∃ a b : Word, b ≠ 0 ∧ b ≤ a ∧ a ≤ b := ⟨5, 5, by decide⟩
theorem witness_IterationCounts_mul_none : ∃ a b : Word, min a.toNat b.toNat ≤ 1 ∧ 1 < a.toNat := ⟨5, 1, by decide⟩
theorem witness_IterationCounts_mul_some : ∃ a b : Word, min a.toNat b.toNat = 2 ∧ a < b := ⟨2, 5, by decide⟩
theorem witness_IterationCounts_mul_worst : ∃ a b : Word, min a.toNat b.toNat = 2 ^ 23 ∧ b < a :=
  ⟨0xFFFFFF, 0x800000, by decide⟩
theorem witness_IterationCounts_div_less : ∃ a b : Word, 2 ≤ b.toNat ∧ a.toNat < b.toNat := ⟨1, 2, by decide⟩
theorem witness_IterationCounts_div_equal : ∃ a b : Word, b.toNat = 2 ∧ b.toNat ≤ a.toNat ∧ a = b := ⟨2, 2, by decide⟩
/-- R99's own worst case of the divider. -/
theorem test_divIterations_worst_case : divIterations 0xFFFFFF 2 = ⟨23, 23⟩ := by decide
/-- The rows of R99 meet at the amounts 23 and 24. -/
theorem test_shrIterations_23_24 : shrIterations 23 = ⟨0, 1⟩ ∧ shrIterations 24 = ⟨0, 0⟩ := by decide
theorem witness_shift_by_23 : ∃ n : Word, n.toNat ≤ 23 ∧ n ≠ 0 := ⟨23, by decide⟩

end Sys2Proof.Tests
end

/-! The rules that say once what a command, a complete step and the primitives of R8 do, and the two statements of
00_scope.md that follow from them. -/

namespace Sys2Proof.Machine

/-! ## What a command does -/

@[simp] theorem divisorIsZero_eq_true_iff (b : Word) : divisorIsZero b = true ↔ b = 0 := by
  simp [divisorIsZero, BitVec.toNat_eq]

theorem divResult_eq_commandResult (a b : Word) : divResult a b = commandResult 0x2 a b := by
  simp [divResult, commandResult]

theorem modResult_eq_commandResult (a b : Word) : modResult a b = commandResult 0x3 a b := by
  simp [modResult, commandResult]

/-- R43: dispatch and the table of `Exec` agree, so no meaning reads anything of the state to find its outcome. -/
theorem exec_eq_next_complete (i : Instr) (s : State) :
    exec i s = .next (s.complete (commandResult i.opcode i.opA i.opB)) := by
  cases i with
  | div a b => exact congrArg (fun o => Host.Outcome.next (s.complete o)) (divResult_eq_commandResult a b)
  | mod a b => exact congrArg (fun o => Host.Outcome.next (s.complete o)) (modResult_eq_commandResult a b)
  | _ => rfl

/-! ## What a complete step does -/

/-- R21: when the latency has elapsed, the step of a busy block is that of the latched command. -/
theorem step_eq_exec_of_due {s : State} (hreset : s.wasReset = true) (hbusy : s.busy = true)
    (hdue : s.nextEdge.due) : step s = exec (decode s.latched) s.clockEdge := by
  obtain ⟨hrst, helapsed⟩ := hdue
  have hkind : s.stepKind = .complete := by simp [State.stepKind, hreset, hbusy, hrst, helapsed]
  simp [step, hkind]

theorem latched_eq_of_sameCommand {s t : State} (h : s.sameCommand t) : t.latched = s.latched := by
  obtain ⟨hop, ha, hb⟩ := h
  simp [State.latched, hop, ha, hb]

@[simp] theorem complete_ok (y r : Word) (s : State) : s.complete (.ok y r) = s.succeed y r := rfl
@[simp] theorem complete_fault (c : Cause) (s : State) : s.complete (.fault c) = s.takeFault c := rfl

@[simp] theorem succeed_y (y r : Word) (s : State) : (s.succeed y r).y = y := rfl
@[simp] theorem succeed_r (y r : Word) (s : State) : (s.succeed y r).r = r := rfl
@[simp] theorem succeed_err (y r : Word) (s : State) : (s.succeed y r).err = false := rfl
@[simp] theorem succeed_cause (y r : Word) (s : State) : (s.succeed y r).cause = 0 := rfl
@[simp] theorem takeFault_err (c : Cause) (s : State) : (s.takeFault c).err = true := rfl
@[simp] theorem takeFault_cause (c : Cause) (s : State) : (s.takeFault c).cause = c.code := rfl

/-- R27: what a completion reports is a function of its outcome alone; only after a fault may `Y` and `R` differ
(R76). -/
theorem complete_reports_outcome_alone (o : Result) (s₁ s₂ : State) :
    (s₁.complete o).err = (s₂.complete o).err ∧ (s₁.complete o).cause = (s₂.complete o).cause ∧
      ((s₁.complete o).err = false →
        (s₁.complete o).y = (s₂.complete o).y ∧ (s₁.complete o).r = (s₂.complete o).r) := by
  cases o with
  | ok y r => simp
  | fault c => simp

/-! ## The primitives of R8 -/

@[simp] theorem toNat_add24 (x y : Word) : (add24 x y).toNat = (x.toNat + y.toNat) % 2 ^ 24 :=
  BitVec.toNat_add x y

theorem toNat_sub24_of_le {x y : Word} (h : y ≤ x) : (sub24 x y).toNat = x.toNat - y.toNat :=
  BitVec.toNat_sub_of_le h

/-- R8: a double that wraps has lost `2^24`, more than the word itself, and one that does not wrap is no smaller. -/
theorem dbl24_lt_self_iff {x : Word} (hx : x ≠ 0) : dbl24 x < x ↔ 2 ^ 23 ≤ x.toNat := by
  have hpos : x.toNat ≠ 0 := fun h => hx (BitVec.eq_of_toNat_eq h)
  have hlt : x.toNat < 2 ^ 24 := x.isLt
  rw [BitVec.lt_def, dbl24, toNat_add24]
  omega

/-! ## The statements -/

/-- Settles O38: both states run the same decoded command, whose outcome `Exec` gives without the state. -/
theorem outcomeDependsOnCommandAlone : Obligations.OutcomeDependsOnCommandAlone := by
  intro s₁ s₂ hsame hreset₁ hbusy₁ hdue₁ hreset₂ hbusy₂ hdue₂
  have hstep₁ := step_eq_exec_of_due hreset₁ hbusy₁ hdue₁
  have hstep₂ := step_eq_exec_of_due hreset₂ hbusy₂ hdue₂
  rw [latched_eq_of_sameCommand hsame] at hstep₂
  rw [exec_eq_next_complete] at hstep₁ hstep₂
  exact ⟨_, _, hstep₁, hstep₂, complete_reports_outcome_alone _ _ _⟩

/-- Settles O46, each clause by the rule of its primitive. -/
theorem datapathPrimitives : Obligations.DatapathPrimitives :=
  fun x y => ⟨toNat_add24 x y, toNat_sub24_of_le, rfl, dbl24_lt_self_iff⟩

end Sys2Proof.Machine

/-! The four steps of 10_state.md section 8, each with its condition and its effect, the runs built from them, and the
statements of that document. -/

namespace Sys2Proof.Machine

/-! ## The latched command, decoded -/

/-- R42, R45: the opcode of the command that four opcode bits stand for is those four bits. -/
@[simp] theorem opcode_decodeFields (op : Opcode) (a b : Word) : (decodeFields op a b).opcode = op := by
  apply BitVec.eq_of_toNat_eq
  have hlt : op.toNat < 16 := op.isLt
  unfold decodeFields
  split
  case h_16 =>
    simp only [imp_false] at *
    simp [Instr.opcode]
    omega
  all_goals simp_all [Instr.opcode]

@[simp] theorem opA_decodeFields (op : Opcode) (a b : Word) : (decodeFields op a b).opA = a := by
  unfold decodeFields
  split <;> rfl

@[simp] theorem opB_decodeFields (op : Opcode) (a b : Word) : (decodeFields op a b).opB = b := by
  unfold decodeFields
  split <;> rfl

@[simp] theorem decode_latched (s : State) : decode s.latched = decodeFields s.op s.a s.b := by
  simp [decode, State.latched]

/-! ## The four steps, each under its condition -/

section Steps

variable {s : State}

/-- R23. -/
theorem step_eq_resetStep (hrst : s.nextEdge.rst = true) : step s = .next s.clockEdge.resetStep := by
  simp [step, State.stepKind_reset hrst]

/-- R20. -/
theorem step_eq_acceptStep (hreset : s.wasReset = true) (hrst : s.nextEdge.rst = false) (hbusy : s.busy = false)
    (hstart : s.nextEdge.start = true) : step s = .next (s.clockEdge.acceptStep s.nextEdge) := by
  simp [step, State.stepKind_accept hrst hreset hbusy hstart]

/-- R21, R43: the complete step is the completion with the outcome `Exec` gives the latched command. -/
theorem step_eq_complete (hreset : s.wasReset = true) (hbusy : s.busy = true) (hdue : s.nextEdge.due) :
    step s = .next (s.clockEdge.complete (commandResult s.op s.a s.b)) := by
  rw [step_eq_exec_of_due hreset hbusy hdue, exec_eq_next_complete]
  simp

/-- R22, a busy block whose latency has not elapsed. -/
theorem step_eq_clockEdge_of_waiting (hreset : s.wasReset = true) (hbusy : s.busy = true)
    (hwait : s.nextEdge.waiting) : step s = .next s.clockEdge := by
  obtain ⟨hrst, helapsed⟩ := hwait
  simp [step, State.stepKind_wait hrst hreset hbusy helapsed]

/-- R22, an idle block to which no command is presented. -/
theorem step_eq_clockEdge_of_silent (hreset : s.wasReset = true) (hbusy : s.busy = false)
    (hsilent : s.nextEdge.silent) : step s = .next s.clockEdge := by
  obtain ⟨hrst, hstart⟩ := hsilent
  simp [step, State.stepKind_silent hrst hreset hbusy hstart]

theorem next_unique {t u : State} (ht : step s = .next t) (hu : step s = .next u) : t = u :=
  Host.Outcome.next.inj (ht.symm.trans hu)

/-- Everything a step that answers a next state can have done, with the conditions under which it does it. -/
theorem step_next_cases {t : State} (h : step s = .next t) :
    (s.nextEdge.rst = true ∧ t = s.clockEdge.resetStep) ∨
    (s.nextEdge.rst = false ∧ s.busy = false ∧ s.nextEdge.start = true ∧
      t = s.clockEdge.acceptStep s.nextEdge) ∨
    (s.nextEdge.due ∧ s.busy = true ∧ t = s.clockEdge.complete (commandResult s.op s.a s.b)) ∨
    (((s.busy = true ∧ s.nextEdge.waiting) ∨ (s.busy = false ∧ s.nextEdge.silent)) ∧ t = s.clockEdge) := by
  obtain ⟨-, hrst⟩ | ⟨hkind, -⟩ | ⟨-, hrst, hreset, hbusy, hstart⟩ | ⟨-, hrst, hreset, hbusy, helapsed⟩ |
    ⟨-, hrst, hreset, ⟨hbusy, helapsed⟩ | ⟨hbusy, hstart⟩⟩ := s.stepKind_cases
  · exact .inl ⟨hrst, next_unique h (step_eq_resetStep hrst)⟩
  · simp [step, hkind] at h
  · exact .inr (.inl ⟨hrst, hbusy, hstart, next_unique h (step_eq_acceptStep hreset hrst hbusy hstart)⟩)
  · have hdue : s.nextEdge.due := ⟨hrst, helapsed⟩
    exact .inr (.inr (.inl ⟨hdue, hbusy, next_unique h (step_eq_complete hreset hbusy hdue)⟩))
  · have hwait : s.nextEdge.waiting := ⟨hrst, helapsed⟩
    exact .inr (.inr (.inr ⟨.inl ⟨hbusy, hwait⟩, next_unique h (step_eq_clockEdge_of_waiting hreset hbusy hwait)⟩))
  · have hsilent : s.nextEdge.silent := ⟨hrst, hstart⟩
    exact .inr (.inr (.inr ⟨.inr ⟨hbusy, hsilent⟩,
      next_unique h (step_eq_clockEdge_of_silent hreset hbusy hsilent)⟩))

theorem busy_start_of_stepKind_eq_accept (hkind : s.stepKind = .accept) :
    s.busy = false ∧ s.nextEdge.start = true := by
  obtain ⟨-, -, hbusy, hstart⟩ := by simpa [hkind] using s.stepKind_cases
  exact ⟨hbusy, hstart⟩

/-- Two first edges that make the same kind of step, not an accept, give the same step: only an accept reads more of
an edge than the kind it makes. -/
theorem step_eq_of_stepKind_eq {p q : Edge} {rest : List Edge}
    (hkind : ({ s with edges := p :: rest } : State).stepKind = ({ s with edges := q :: rest } : State).stepKind)
    (haccept : ({ s with edges := p :: rest } : State).stepKind ≠ .accept) :
    step { s with edges := p :: rest } = step { s with edges := q :: rest } := by
  unfold step
  rw [← hkind]
  cases hk : ({ s with edges := p :: rest } : State).stepKind with
  | accept => exact absurd hk haccept
  | _ => rfl

end Steps

/-! ## What a completion leaves -/

/-- R26: a completion with the outcome `Exec` gives the latched command leaves results that describe it. -/
theorem describesCommand_complete (s : State) :
    (s.complete (commandResult s.op s.a s.b)).describesCommand := by
  intro _
  obtain ⟨⟨hop, ha, hb⟩, -⟩ := s.complete_frame (commandResult s.op s.a s.b)
  rw [hop, ha, hb]
  cases commandResult s.op s.a s.b <;> simp

/-- R73: no cause has the number 0, which is none, or 3, which is never produced. -/
theorem cause_code_ne (c : Cause) : c.code ≠ 0 ∧ c.code ≠ 3 := by
  cases c <;> decide

theorem legalStatus_complete (s : State) (o : Result) : (s.complete o).legalStatus := by
  cases o with
  | ok y r => simp [State.legalStatus]
  | fault c => simpa [State.legalStatus] using cause_code_ne c

/-! ## Runs -/

theorem run_succ {s t : State} (h : step s = .next t) (k : Nat) : core.run (k + 1) s = core.run k t := by
  have hcore : core.step s = .next t := h
  simp [Host.Core.run, hcore]

theorem run_add {m : Nat} {s u : State} (h : core.run m s = .next u) (k : Nat) :
    core.run (m + k) s = core.run k u := by
  induction m generalizing s with
  | zero =>
    cases h
    rw [Nat.zero_add]
  | succ m ih =>
    rw [Nat.succ_add]
    cases hstep : core.step s with
    | next v =>
      rw [run_succ hstep] at h ⊢
      exact ih h
    | fault c => simp [Host.Core.run, hstep] at h
    | refused c => simp [Host.Core.run, hstep] at h

/-- Edges that change nothing but pass by, in any number, leave the state as it is. -/
theorem run_of_edges_without_effect {s : State} {ws rest : List Edge}
    (hpass : ∀ w ∈ ws, ∀ es, step { s with edges := w :: es } = .next { s with edges := es })
    (hedges : s.edges = ws ++ rest) : core.run ws.length s = .next { s with edges := rest } := by
  have hs : s = { s with edges := ws ++ rest } := by rw [← hedges]
  conv_lhs => rw [hs]
  clear hs hedges
  induction ws with
  | nil => rfl
  | cons w ws ih =>
    rw [List.length_cons, List.cons_append, run_succ (hpass w List.mem_cons_self _)]
    exact ih fun v hv => hpass v (List.mem_cons_of_mem w hv)

section Busy

variable {s : State} {ws rest : List Edge} {p : Edge}

/-- R22: a busy block waits. -/
theorem run_waiting (hreset : s.wasReset = true) (hbusy : s.busy = true) (hwait : ∀ w ∈ ws, w.waiting)
    (hedges : s.edges = ws ++ rest) : core.run ws.length s = .next { s with edges := rest } :=
  run_of_edges_without_effect (fun w hw _ => step_eq_clockEdge_of_waiting hreset hbusy (hwait w hw)) hedges

/-- R25: a busy block waits and then completes. -/
theorem run_to_completion (hreset : s.wasReset = true) (hbusy : s.busy = true) (hwait : ∀ w ∈ ws, w.waiting)
    (hdue : p.due) (hedges : s.edges = ws ++ p :: rest) :
    core.run (ws.length + 1) s =
      .next (({ s with edges := rest } : State).complete (commandResult s.op s.a s.b)) := by
  rw [run_add (run_waiting hreset hbusy hwait hedges)]
  exact run_succ (step_eq_complete (s := { s with edges := p :: rest }) hreset hbusy hdue) 0

end Busy

/-- The block has completed command `i` and still has the edges `rest` before it. -/
structure State.HasCompleted (i : Instr) (rest : List Edge) (t : State) : Prop where
  wasReset : t.wasReset = true
  edges : t.edges = rest
  op : t.op = i.opcode
  a : t.a = i.opA
  b : t.b = i.opB
  busy : t.busy = false
  done : t.done = true
  describes : t.describesCommand

/-- R20, R21: an idle block accepts the command presented to it, waits and completes it. -/
theorem run_handshake {s : State} {i : Instr} {q p : Edge} {ws rest : List Edge} (hreset : s.wasReset = true)
    (hbusy : s.busy = false) (hpresents : q.presents i) (hwait : ∀ w ∈ ws, w.waiting) (hdue : p.due)
    (hedges : s.edges = q :: (ws ++ p :: rest)) :
    ∃ t : State, core.run (ws.length + 2) s = .next t ∧ t.HasCompleted i rest := by
  obtain ⟨hrst, hstart, hop, ha, hb⟩ := hpresents
  have hnext : s.nextEdge = q := by simp [State.nextEdge, hedges]
  have haccept : step s = .next (s.clockEdge.acceptStep q) := by
    rw [← hnext] at hrst hstart ⊢
    exact step_eq_acceptStep hreset hrst hbusy hstart
  have hcomplete := run_to_completion (s := s.clockEdge.acceptStep q) (rest := rest) hreset rfl hwait hdue
    (by simp [hedges])
  rw [← run_succ haccept] at hcomplete
  obtain ⟨⟨hop', ha', hb'⟩, hedges', hreset', hbusy', hdone'⟩ := State.complete_frame
    { s.clockEdge.acceptStep q with edges := rest } (commandResult q.op q.a q.b)
  exact ⟨_, hcomplete, hreset'.trans hreset, hedges', hop'.trans hop, ha'.trans ha, hb'.trans hb, hbusy', hdone',
    describesCommand_complete { s.clockEdge.acceptStep q with edges := rest }⟩

theorem edge_issue_presents (i : Instr) : (Edge.issue i).presents i := ⟨rfl, rfl, rfl, rfl, rfl⟩

theorem run_transaction {s : State} {i : Instr} {n : Nat} {rest : List Edge} (hreset : s.wasReset = true)
    (hbusy : s.busy = false) (hedges : s.edges = Edge.transaction i n ++ rest) :
    ∃ t : State, core.run (Edge.transaction i n).length s = .next t ∧ t.HasCompleted i rest := by
  have hwait : ∀ w ∈ List.replicate n Edge.wait, w.waiting := by
    intro w hw
    rw [List.eq_of_mem_replicate hw]
    exact ⟨rfl, rfl⟩
  have hlength : (Edge.transaction i n).length = (List.replicate n Edge.wait).length + 2 := by
    simp [Edge.transaction]
  rw [hlength]
  exact run_handshake (p := Edge.quiet) hreset hbusy (edge_issue_presents i) hwait ⟨rfl, rfl⟩
    (by simp [hedges, Edge.transaction])

@[simp] theorem program_cons (c : Instr × Nat) (cmds : List (Instr × Nat)) :
    Edge.program (c :: cmds) = Edge.transaction c.1 c.2 ++ Edge.program cmds := rfl

/-- R16: by induction over the commands before the last; each leaves the block idle for the one after it. -/
theorem run_program {s : State} (cmds : List (Instr × Nat)) {i : Instr} {n : Nat} {rest : List Edge}
    (hreset : s.wasReset = true) (hbusy : s.busy = false)
    (hedges : s.edges = Edge.program (cmds ++ [(i, n)]) ++ rest) :
    ∃ t : State, core.run (Edge.program (cmds ++ [(i, n)])).length s = .next t ∧ t.HasCompleted i rest := by
  induction cmds generalizing s with
  | nil =>
    have hprogram : Edge.program ([] ++ [(i, n)]) = Edge.transaction i n := by simp [Edge.program]
    rw [hprogram] at hedges ⊢
    exact run_transaction hreset hbusy hedges
  | cons c cmds ih =>
    rw [List.cons_append, program_cons, List.append_assoc] at hedges
    obtain ⟨u, hrun, hu⟩ := run_transaction hreset hbusy hedges
    rw [List.cons_append, program_cons, List.length_append, run_add hrun]
    exact ih hu.wasReset hu.busy hu.edges

/-! ## The invariants -/

/-- Settles O36, by the four steps: reset and accept write a legal status, every completion does, and the idle step
keeps the one there was. -/
theorem stepKeepsLegalStatus : Obligations.StepKeepsLegalStatus := by
  intro s t hlegal hstep
  obtain ⟨-, rfl⟩ | ⟨-, -, -, rfl⟩ | ⟨-, -, rfl⟩ | ⟨-, rfl⟩ := step_next_cases hstep
  · simp [State.legalStatus]
  · simp [State.legalStatus]
  · exact legalStatus_complete _ _
  · exact hlegal

/-- Settles O37, by the four steps: after reset and accept `done` is 0, a completion writes what `Exec` gives the
command that stays latched, and the idle step keeps results and command together. -/
theorem stepKeepsResultsDescribingCommand : Obligations.StepKeepsResultsDescribingCommand := by
  intro s t hdescribes hstep
  obtain ⟨-, rfl⟩ | ⟨-, -, -, rfl⟩ | ⟨-, -, rfl⟩ | ⟨-, rfl⟩ := step_next_cases hstep
  · simp [State.describesCommand]
  · simp [State.describesCommand]
  · exact describesCommand_complete s.clockEdge
  · exact hdescribes

/-- Settles O35: after reset `done`, `err` and `cause` are 0. -/
theorem resetStateMeetsInvariants : Obligations.ResetStateMeetsInvariants := by
  refine ⟨?_, ?_, rfl⟩
  · simp [State.legalStatus, State.reset]
  · simp [State.describesCommand, State.reset]

/-! ## The four steps -/

/-- Settles O7, by the reset step. -/
theorem resetClearsEveryRegister : Obligations.ResetClearsEveryRegister :=
  ⟨rfl, fun s hrst => ⟨_, step_eq_resetStep hrst, s.clockEdge.resetStep_registers⟩⟩

/-- Settles O8, by the accept step. -/
theorem acceptLatchesTheCommand : Obligations.AcceptLatchesTheCommand :=
  fun s hreset hrst hbusy hstart =>
    ⟨_, step_eq_acceptStep hreset hrst hbusy hstart, s.clockEdge.acceptStep_registers s.nextEdge⟩

/-- Settles O9, by the two conditions under which the step is idle. -/
theorem idleChangesNoRegister : Obligations.IdleChangesNoRegister := by
  rintro s hreset hrst (⟨hbusy, hstart⟩ | ⟨hbusy, helapsed⟩)
  · exact ⟨_, step_eq_clockEdge_of_silent hreset hbusy ⟨hrst, hstart⟩, s.clockEdge_registers⟩
  · exact ⟨_, step_eq_clockEdge_of_waiting hreset hbusy ⟨hrst, helapsed⟩, s.clockEdge_registers⟩

/-- Settles O10, by the complete step; the passing of the edge touches nothing but the edges. -/
theorem dueStepRunsLatchedCommand : Obligations.DueStepRunsLatchedCommand := by
  rintro s i hreset hrst hbusy helapsed rfl
  exact ⟨step_eq_exec_of_due hreset hbusy ⟨hrst, helapsed⟩, rfl, rfl, rfl, rfl, rfl⟩

/-- Settles O11, by the complete step and the two outcomes. -/
theorem completeWritesOutcomeOfExec : Obligations.CompleteWritesOutcomeOfExec := by
  intro s hreset hrst hbusy helapsed
  obtain ⟨hsame, -, -, hbusy', hdone'⟩ := s.clockEdge.complete_frame (commandResult s.op s.a s.b)
  refine ⟨_, step_eq_complete hreset hbusy ⟨hrst, helapsed⟩, hsame, hbusy', hdone', ?_⟩
  cases commandResult s.op s.a s.b <;> simp

/-- Settles O12: of the five kinds of a step only the one before the first reset stops. -/
theorem everyEdgeAfterResetHasAStep : Obligations.EveryEdgeAfterResetHasAStep := by
  intro s hreset
  obtain ⟨-, hrst⟩ | ⟨-, -, hnot⟩ | ⟨-, hrst, -, hbusy, hstart⟩ | ⟨-, hrst, -, hbusy, helapsed⟩ |
    ⟨-, hrst, -, ⟨hbusy, helapsed⟩ | ⟨hbusy, hstart⟩⟩ := s.stepKind_cases
  · exact ⟨_, step_eq_resetStep hrst, rfl⟩
  · simp [hreset] at hnot
  · exact ⟨_, step_eq_acceptStep hreset hrst hbusy hstart, hreset⟩
  · obtain ⟨-, -, hreset', -⟩ := s.clockEdge.complete_frame (commandResult s.op s.a s.b)
    exact ⟨_, step_eq_complete hreset hbusy ⟨hrst, helapsed⟩, hreset'.trans hreset⟩
  · exact ⟨_, step_eq_clockEdge_of_waiting hreset hbusy ⟨hrst, helapsed⟩, hreset⟩
  · exact ⟨_, step_eq_clockEdge_of_silent hreset hbusy ⟨hrst, hstart⟩, hreset⟩

/-- Settles O13, by the four steps: each case is either excluded by a clause's condition or keeps what the clause
names. -/
theorem registersChangeOnlyAtTheirSteps : Obligations.RegistersChangeOnlyAtTheirSteps := by
  intro s t hstep
  obtain ⟨hrst, rfl⟩ | ⟨-, hbusy, hstart, rfl⟩ | ⟨⟨-, helapsed⟩, hbusy, rfl⟩ | ⟨-, rfl⟩ := step_next_cases hstep
  · exact ⟨rfl, fun hno => by simp [hrst] at hno⟩
  · have haccept : s.busy = false ∧ s.nextEdge.start = true := ⟨hbusy, hstart⟩
    exact ⟨rfl, fun _ => ⟨fun hno => absurd haccept hno, fun _ => ⟨rfl, rfl⟩, fun hno => absurd haccept hno⟩⟩
  · have hcomplete : s.busy = true ∧ s.nextEdge.elapsed = true := ⟨hbusy, helapsed⟩
    obtain ⟨hsame, hedges, -⟩ := s.clockEdge.complete_frame (commandResult s.op s.a s.b)
    exact ⟨hedges, fun _ => ⟨fun _ => hsame, fun hno => absurd hcomplete hno, fun _ hno => absurd hcomplete hno⟩⟩
  · exact ⟨rfl, fun _ => ⟨fun _ => ⟨rfl, rfl, rfl⟩, fun _ => ⟨rfl, rfl⟩, fun _ _ => rfl⟩⟩

/-- Settles O16: in both cases the two edges make the same kind of step, and it is no accept. -/
theorem operandPortsReadOnlyAtAccept : Obligations.OperandPortsReadOnlyAtAccept := by
  rintro s p q rest hrst (⟨hbusy, helapsed⟩ | ⟨hbusy, hp, hq⟩)
  · apply step_eq_of_stepKind_eq
    · simp [State.stepKind, State.nextEdge, hbusy, hrst, helapsed]
    · intro haccept
      obtain ⟨hidle, -⟩ := busy_start_of_stepKind_eq_accept haccept
      simp [hbusy] at hidle
  · apply step_eq_of_stepKind_eq
    · simp [State.stepKind, State.nextEdge, hbusy, hrst, hp, hq]
    · intro haccept
      obtain ⟨-, hstart⟩ := busy_start_of_stepKind_eq_accept haccept
      simp [State.nextEdge, hp] at hstart

/-- Settles O29: a command's meaning is a completion, and that is the frame of a completion. -/
theorem commandsKeepLatchedCommandAndEdges : Obligations.CommandsKeepLatchedCommandAndEdges := by
  intro i s t hexec
  rw [exec_eq_next_complete] at hexec
  cases hexec
  obtain ⟨hsame, hedges, hreset, -⟩ := s.complete_frame (commandResult i.opcode i.opA i.opB)
  exact ⟨hsame, hedges, hreset⟩

/-! ## Status and outputs -/

/-- R15: bit `k` of the status word, field by field. -/
theorem getLsbD_st (s : State) (k : Nat) :
    s.st.getLsbD k =
      if k = 0 then s.busy else if k = 1 then s.done else if k = 2 then s.err else s.cause.getLsbD (k - 3) := by
  change (s.cause ++ BitVec.ofBool s.err ++ BitVec.ofBool s.done ++ BitVec.ofBool s.busy :
    BitVec (2 + 1 + 1 + 1)).getLsbD k = _
  rw [BitVec.getLsbD_append, BitVec.getLsbD_append, BitVec.getLsbD_append]
  match k with
  | 0 | 1 | 2 => simp
  | k + 3 => simp

/-- Settles O33, bit by bit. -/
theorem statusWordLayout : Obligations.StatusWordLayout := by
  refine fun s => ⟨getLsbD_st s 0, getLsbD_st s 1, getLsbD_st s 2, ?_⟩
  apply BitVec.eq_of_getLsbD_eq
  intro k hk
  simp [getLsbD_st, hk, show ¬3 + k = 1 by omega, show ¬3 + k = 2 by omega]

theorem results_outputs (s : State) :
    s.outputs.results = if s.done = true ∧ s.err = false then some (s.y, s.r) else none := by
  simp [Outputs.results, State.outputs]

/-- Settles O34: the results are offered under exactly one condition. -/
theorem outputsCopyRegisters : Obligations.OutputsCopyRegisters := by
  intro s
  rw [results_outputs]
  by_cases h : s.done = true ∧ s.err = false
  · simp [h, State.outputs]
  · simp [h, State.outputs]

/-! ## Runs over many edges -/

/-- Settles O40: the block waits, and the due edge completes the command. -/
theorem busyBlockCompletesWhenDue : Obligations.BusyBlockCompletesWhenDue := by
  intro s ws p rest hreset hbusy hwait hdue hedges
  obtain ⟨hsame, hrest, -, hbusy', hdone'⟩ :=
    State.complete_frame { s with edges := rest } (commandResult s.op s.a s.b)
  exact ⟨_, _, run_waiting hreset hbusy hwait hedges, rfl,
    step_eq_complete (s := { s with edges := p :: rest }) hreset hbusy hdue,
    run_to_completion hreset hbusy hwait hdue hedges, hbusy', hdone', hsame,
    describesCommand_complete { s with edges := rest }, hrest⟩

/-- R98: the bounds of `LAT`. -/
theorem latency_bounds (op : Opcode) (a b : Word) :
    1 ≤ Config.latency op a b ∧ Config.latency op a b ≤ Config.latencyMax := by
  unfold Config.latency Config.latencyMax
  omega

/-- Settles O39: O40, for the number of edges `LAT` names. -/
theorem commandCompletesWithinLatencyBound : Obligations.CommandCompletesWithinLatencyBound := by
  intro s ws p rest hreset hbusy hwait hdue hedges hlatency
  obtain ⟨-, t, -, -, -, hrun, hbusy', hdone', hsame, hdescribes, -⟩ :=
    busyBlockCompletesWhenDue s ws p rest hreset hbusy hwait hdue hedges
  obtain ⟨hmin, hmax⟩ := latency_bounds s.op s.a s.b
  exact ⟨hmin, hmax, t, hlatency ▸ hrun, hbusy', hdone', hsame, hdescribes⟩

/-- Settles O41: after the handshake the results describe the command that was presented. -/
theorem handshakeComputesExec : Obligations.HandshakeComputesExec := by
  intro s i q ws p rest hreset hbusy hpresents hwait hdue hedges
  obtain ⟨t, hrun, ht⟩ := run_handshake hreset hbusy hpresents hwait hdue hedges
  refine ⟨t, hrun, ht.edges, ht.op, ht.a, ht.b, ht.busy, ht.done, ?_⟩
  have hdescribes := ht.describes ht.done
  rw [ht.op, ht.a, ht.b] at hdescribes
  cases hresult : commandResult i.opcode i.opA i.opB with
  | ok y r =>
    rw [hresult] at hdescribes
    obtain ⟨herr, hcause, hy, hr⟩ := hdescribes
    exact ⟨by simp [results_outputs, ht.done, herr, hy, hr], hcause⟩
  | fault c =>
    rw [hresult] at hdescribes
    exact hdescribes

/-- Settles O42, by the run over a program. -/
theorem lastCommandAloneIsVisible : Obligations.LastCommandAloneIsVisible := by
  intro s cmds i n rest hreset hbusy hedges
  obtain ⟨t, hrun, ht⟩ := run_program cmds hreset hbusy hedges
  exact ⟨t, hrun, ht.edges, ht.op, ht.a, ht.b, ht.busy, ht.done, ht.describes⟩

end Sys2Proof.Machine

/-! BitTable: the entry that stands at each index, and the statement of 20_memory.md. -/

namespace Sys2Proof.Machine

/-- R28: the literal listed at index `i` is the word whose one set bit is bit `23 - i`. -/
theorem T_eq_twoPow (i : Fin 24) : T i = BitVec.twoPow 24 (23 - i.1) := by
  revert i
  decide

@[simp] theorem toNat_T (i : Fin 24) : (T i).toNat = 2 ^ (23 - i.1) := by
  have hbit : 23 - i.1 < 24 := by omega
  rw [T_eq_twoPow, BitVec.toNat_twoPow_of_lt hbit]

/-- Settles O45: each entry has the value of its one set bit. -/
theorem bitTableHoldsPowersOfTwo : Obligations.BitTableHoldsPowersOfTwo := toNat_T

end Sys2Proof.Machine

/-! Encoding and decoding as inverse maps between commands and command words, what the range checks of
30_encoding.md accept, and the statements of that document. -/

namespace Sys2Proof.Machine

/-! ## Decoding and encoding -/

/-- R42, R45: the sixteen rows of the opcode map read back the opcode each command carries. -/
@[simp] theorem decodeFields_fields (i : Instr) : decodeFields i.opcode i.opA i.opB = i := by
  cases i <;> rfl

@[simp] theorem decode_commandWord (op : Opcode) (a b : Word) :
    decode (commandWord op a b) = decodeFields op a b := by
  simp [decode]

@[simp] theorem decode_encode (i : Instr) : decode (encode i) = i := by
  simp [encode]

/-- R40: the three fields leave no bit of the command word out. -/
@[simp] theorem commandWord_fields (w : CommandWord) : commandWord (opField w) (aField w) (bField w) = w := by
  apply BitVec.eq_of_getLsbD_eq
  intro k hk
  rw [getLsbD_commandWord]
  split_ifs with hb ha
  · simp [bField, hb]
  · simp [aField, show k - 24 < 24 by omega, show 24 + (k - 24) = k by omega]
  · simp [opField, show k - 48 < 4 by omega, show 48 + (k - 48) = k by omega]

theorem opcode_opA_opB_decode (w : CommandWord) :
    (decode w).opcode = opField w ∧ (decode w).opA = aField w ∧ (decode w).opB = bField w :=
  ⟨opcode_decodeFields .., opA_decodeFields .., opB_decodeFields ..⟩

@[simp] theorem encode_decode (w : CommandWord) : encode (decode w) = w := by
  obtain ⟨hop, ha, hb⟩ := opcode_opA_opB_decode w
  rw [encode, hop, ha, hb, commandWord_fields]

/-! ## The range checks -/

@[simp] theorem wordFits_iff (n : Nat) : wordFits n = true ↔ n < 2 ^ 24 := decide_eq_true_iff
@[simp] theorem opcodeFits_iff (n : Nat) : opcodeFits n = true ↔ n < 2 ^ 4 := decide_eq_true_iff
@[simp] theorem commandWordFits_iff (n : Nat) : commandWordFits n = true ↔ n < 2 ^ 52 := decide_eq_true_iff

/-- R40: the fields of a command fit their ports by their types. -/
theorem wellFormed_eq_true (i : Instr) : i.wellFormed = true := by
  have hop := (opcodeFits_iff _).2 i.opcode.isLt
  have ha := (wordFits_iff _).2 i.opA.isLt
  have hb := (wordFits_iff _).2 i.opB.isLt
  simp only [Instr.wellFormed, commandFits, hop, ha, hb, Bool.and_self]

/-- R47: a literal is none of the texts `%y` and `%r`, so it is read as a number and checked against the range. -/
theorem operand_of_literal {cs : List Char} {n : Nat} (h : literal cs = some n) (previous : Option (Word × Word)) :
    operand previous cs = if wordFits n then .ok (BitVec.ofNat 24 n) else .error .outOfRange := by
  have hy : literal ['%', 'y'] = none := by decide
  have hr : literal ['%', 'r'] = none := by decide
  unfold operand
  split
  · simp [hy] at h
  · simp [hr] at h
  · simp [h]

/-! ## The reserved opcodes -/

/-- R45, R75: outside the nine opcodes of R42 the outcome is `Fault(IllegalOp)`, whatever the operands. -/
theorem commandResult_of_reserved {op : Opcode} (h : op = 0x0 ∨ 0xA ≤ op.toNat) (a b : Word) :
    commandResult op a b = .fault .illegalOp := by
  have hne : ∀ k : Nat, 1 ≤ k → k ≤ 9 → op ≠ BitVec.ofNat 4 k := by
    rintro k hlow hhigh rfl
    simp [BitVec.toNat_eq] at h
    omega
  simp [commandResult, hne]

/-- R45, R75: the command a reserved opcode decodes to completes with the cause 2. -/
theorem decode_exec_of_reserved {op : Opcode} (h : op = 0x0 ∨ 0xA ≤ op.toNat) {a b : Word} {i : Instr}
    (hi : decodeFields op a b = i) (s : State) :
    decode (commandWord op a b) = i ∧ ∃ t, exec i s = .next t ∧ t.faulted 2 := by
  subst hi
  refine ⟨decode_commandWord op a b, s.takeFault .illegalOp, ?_, rfl, rfl, rfl, rfl⟩
  rw [exec_eq_next_complete, opcode_decodeFields, commandResult_of_reserved h, complete_fault]

/-! ## The statements -/

/-- Settles O1: the word keeps the three fields, and the opcode map reads them back. -/
theorem decodeEncodeIsIdentity : Obligations.DecodeEncodeIsIdentity :=
  fun i => ⟨wellFormed_eq_true i, decode_encode i⟩

/-- Settles O2: the command keeps the three fields of the word, and they make up the whole word. -/
theorem encodeDecodeIsIdentity : Obligations.EncodeDecodeIsIdentity := encode_decode

/-- Settles O5, by the fields of a decoded command. -/
theorem opcodeFieldSelectsCommand : Obligations.OpcodeFieldSelectsCommand := opcode_opA_opB_decode

/-- Settles O27: dispatch agrees with the table of `Exec`, constructor by constructor. -/
theorem everyCommandCompletesAsExecSays : Obligations.EveryCommandCompletesAsExecSays := exec_eq_next_complete

/-- Settles O3: the words are fixed, so the decoder is run on each. -/
theorem specWordsDecode : Obligations.SpecWordsDecode := by
  unfold Obligations.SpecWordsDecode
  decide

/-- Settles O4, by the two branches of the width check. -/
theorem commandWordsHave52Bits : Obligations.CommandWordsHave52Bits := by
  refine ⟨fun n hwide => if_neg ?_, fun n hfits => if_pos ?_⟩
  · simpa using hwide
  · simpa using hfits

/-- Settles O6, by the two branches of the range check; below `2 ^ 24` the Word has the literal's value. -/
theorem assemblerChecksLiteralRange : Obligations.AssemblerChecksLiteralRange := by
  intro previous cs n hliteral
  rw [operand_of_literal hliteral]
  constructor
  · intro hout
    exact if_neg (by simpa using hout)
  · intro hin
    exact ⟨_, if_pos (by simpa using hin), (BitVec.toNat_ofNat n 24).trans (Nat.mod_eq_of_lt hin)⟩

/-- Settles O26: each of the seven pairs is a reserved opcode and the command it decodes to. -/
theorem reservedOpcodesFault : Obligations.ReservedOpcodesFault := by
  intro a b s p hp
  simp only [List.mem_cons, List.not_mem_nil, or_false] at hp
  obtain rfl | rfl | rfl | rfl | rfl | rfl | rfl := hp <;> dsimp only <;>
    exact decode_exec_of_reserved (by decide) rfl s

end Sys2Proof.Machine

/-! The doubling loop and the scan that MUL and DIV share (R51, R56): the list the loop keeps, and what the scan over
it computes. -/

namespace Sys2Proof.Machine

/-- The first `n` pairs of the two doubling sequences, index 0 first: key and companion times `2^i` (fact 1 of R51 and
of R56). -/
def doublingPairs (key companion : Word) (n : Nat) : List (Word × Word) :=
  (List.range n).map fun i => (BitVec.ofNat 24 (key.toNat * 2 ^ i), BitVec.ofNat 24 (companion.toNat * 2 ^ i))

@[simp] theorem length_doublingPairs (key companion : Word) (n : Nat) :
    (doublingPairs key companion n).length = n := by
  simp [doublingPairs]

theorem getElem?_doublingPairs (key companion : Word) {n i : Nat} (hi : i < n) :
    (doublingPairs key companion n)[i]? =
      some (BitVec.ofNat 24 (key.toNat * 2 ^ i), BitVec.ofNat 24 (companion.toNat * 2 ^ i)) := by
  simp [doublingPairs, hi]

theorem doublingPairs_succ (key companion : Word) (n : Nat) :
    doublingPairs key companion (n + 1) = doublingPairs key companion n ++
      [(BitVec.ofNat 24 (key.toNat * 2 ^ n), BitVec.ofNat 24 (companion.toNat * 2 ^ n))] := by
  simp [doublingPairs, List.range_succ]

@[simp] theorem doublingPairs_one (key companion : Word) :
    doublingPairs key companion 1 = [(key, companion)] := by
  simp [doublingPairs]

theorem ofNat_toNat_dbl24_mul_two_pow (x : Word) (i : Nat) :
    BitVec.ofNat 24 ((dbl24 x).toNat * 2 ^ i) = BitVec.ofNat 24 (x.toNat * 2 ^ (i + 1)) := by
  apply BitVec.eq_of_toNat_eq
  rw [dbl24, toNat_add24, BitVec.toNat_ofNat, BitVec.toNat_ofNat, Nat.mod_mul_mod]
  congr 1
  ring

/-- The sequences of the doubled start values are the sequences without their first entry. -/
theorem doublingPairs_succ_eq_cons (key companion : Word) (n : Nat) :
    doublingPairs key companion (n + 1) = (key, companion) :: doublingPairs (dbl24 key) (dbl24 companion) n := by
  simp [doublingPairs, List.range_succ_eq_map, ofNat_toNat_dbl24_mul_two_pow]

/-! ## The doubling loop -/

theorem toNat_dbl24_of_le {x limit : Word} (h : 2 * x.toNat ≤ limit.toNat) : (dbl24 x).toNat = 2 * x.toNat := by
  have hlt : limit.toNat < 2 ^ 24 := limit.isLt
  rw [dbl24, toNat_add24]
  omega

/-- The loop's two exits together: the double, as a natural number, exceeds the limit. A double that wraps does so,
as the limit is a Word. -/
theorem dbl24_exit_iff {key limit : Word} (hkey : key ≠ 0) :
    (dbl24 key < key ∨ limit < dbl24 key) ↔ limit.toNat < 2 * key.toNat := by
  have hlimit : limit.toNat < 2 ^ 24 := limit.isLt
  have hlt : key.toNat < 2 ^ 24 := key.isLt
  rw [dbl24_lt_self_iff hkey, BitVec.lt_def, dbl24, toNat_add24]
  omega

theorem doublings_of_lt {key limit : Word} (hkey : key ≠ 0) (h : limit.toNat < 2 * key.toNat) (fuel : Nat)
    (companion : Word) : doublings limit fuel key companion = [(key, companion)] := by
  cases fuel with
  | zero => rfl
  | succ fuel =>
    obtain hwrap | hlimit := (dbl24_exit_iff hkey).2 h
    · simp [doublings, hwrap]
    · simp [doublings, hlimit]

theorem doublings_succ_of_le {key limit : Word} (hkey : key ≠ 0) (h : 2 * key.toNat ≤ limit.toNat) (fuel : Nat)
    (companion : Word) : doublings limit (fuel + 1) key companion =
      (key, companion) :: doublings limit fuel (dbl24 key) (dbl24 companion) := by
  obtain ⟨hwrap, hlimit⟩ := not_or.1 (mt (dbl24_exit_iff hkey).1 h.not_gt)
  simp [doublings, hwrap, hlimit]

/-- Facts 1 and 2 of R51 and of R56: when the last double that fits the limit is the `n`-th, the loop keeps exactly the
entries up to that one. -/
theorem doublings_eq_doublingPairs {limit key : Word} (hkey : key ≠ 0) {n fuel : Nat} (hfuel : n ≤ fuel)
    (hfits : key.toNat * 2 ^ n ≤ limit.toNat) (hexceeds : limit.toNat < key.toNat * 2 ^ (n + 1)) (companion : Word) :
    doublings limit fuel key companion = doublingPairs key companion (n + 1) := by
  induction n generalizing key companion fuel with
  | zero => rw [doublings_of_lt hkey (by omega), doublingPairs_one]
  | succ n ih =>
    obtain ⟨fuel, rfl⟩ := Nat.exists_eq_add_of_le' (Nat.le_of_add_left_le hfuel)
    have hshift (m : Nat) : 2 * key.toNat * 2 ^ m = key.toNat * 2 ^ (m + 1) := by ring
    have hdouble : 2 * key.toNat ≤ limit.toNat :=
      calc 2 * key.toNat ≤ 2 * key.toNat * 2 ^ n := Nat.le_mul_of_pos_right _ (by positivity)
        _ = key.toNat * 2 ^ (n + 1) := hshift n
        _ ≤ limit.toNat := hfits
    have hnat := toNat_dbl24_of_le hdouble
    have hkey' : dbl24 key ≠ 0 := by
      intro hzero
      rw [hzero] at hnat
      exact hkey (BitVec.eq_of_toNat_eq (by simpa using hnat.symm))
    rw [← hshift, ← hnat] at hfits hexceeds
    rw [doublings_succ_of_le hkey hdouble, doublingPairs_succ_eq_cons, ih hkey' (by omega) hfits hexceeds]

/-! ## The scan -/

/-- The invariant of the scan of R51 and R56: over the pairs below `key * 2^n`, from the top down, it takes from what
remains the multiple of the key that it adds to the accumulator as a multiple of the companion. -/
theorem foldl_scanStep_doublingPairs {key : Word} (hkey : 0 < key.toNat) (companion : Word) {n : Nat}
    (hwords : key.toNat * 2 ^ n < 2 ^ 25) {rem : Word} (hrem : rem.toNat < key.toNat * 2 ^ n) (acc : Word) :
    ((doublingPairs key companion n).reverse.foldl scanStep (rem, acc)).1.toNat = rem.toNat % key.toNat ∧
    ((doublingPairs key companion n).reverse.foldl scanStep (rem, acc)).2.toNat =
      (acc.toNat + companion.toNat * (rem.toNat / key.toNat)) % 2 ^ 24 := by
  induction n generalizing rem acc with
  | zero =>
    rw [pow_zero, mul_one] at hrem
    rw [Nat.mod_eq_of_lt hrem, Nat.div_eq_of_lt hrem, Nat.mul_zero, Nat.add_zero, BitVec.toNat_mod_cancel]
    exact ⟨rfl, rfl⟩
  | succ n ih =>
    rw [pow_succ, ← mul_assoc] at hwords hrem
    have htop : (BitVec.ofNat 24 (key.toNat * 2 ^ n)).toNat = key.toNat * 2 ^ n := by
      rw [BitVec.toNat_ofNat, Nat.mod_eq_of_lt (by omega)]
    rw [doublingPairs_succ, List.reverse_concat, List.foldl_cons]
    by_cases hle : key.toNat * 2 ^ n ≤ rem.toNat
    · have htake : BitVec.ofNat 24 (key.toNat * 2 ^ n) ≤ rem := by rwa [BitVec.le_def, htop]
      rw [scanStep, if_pos htake]
      obtain ⟨hfst, hsnd⟩ := ih (rem := sub24 rem (BitVec.ofNat 24 (key.toNat * 2 ^ n))) (by omega)
        (by rw [toNat_sub24_of_le htake, htop]; omega)
        (add24 acc (BitVec.ofNat 24 (companion.toNat * 2 ^ n)))
      rw [hfst, hsnd, toNat_sub24_of_le htake, htop, toNat_add24, BitVec.toNat_ofNat]
      obtain ⟨r, hr⟩ := Nat.exists_eq_add_of_le' hle
      rw [hr, Nat.add_sub_cancel, Nat.add_mul_mod_self_left, Nat.add_mul_div_left _ _ hkey, Nat.mul_add]
      exact ⟨rfl, by omega⟩
    · have hskip : ¬BitVec.ofNat 24 (key.toNat * 2 ^ n) ≤ rem := by rwa [BitVec.le_def, htop]
      rw [scanStep, if_neg hskip]
      exact ih (by omega) (by omega) acc

/-- R51, R56: the scan divides by the key, and accumulates the quotient times the companion. -/
theorem scan_doublingPairs {key : Word} (hkey : 0 < key.toNat) (companion : Word) {n : Nat}
    (hwords : key.toNat * 2 ^ n < 2 ^ 25) {rem : Word} (hrem : rem.toNat < key.toNat * 2 ^ n) :
    (scan rem (doublingPairs key companion n)).1.toNat = rem.toNat % key.toNat ∧
    (scan rem (doublingPairs key companion n)).2.toNat =
      companion.toNat * (rem.toNat / key.toNat) % 2 ^ 24 := by
  obtain ⟨hfst, hsnd⟩ := foldl_scanStep_doublingPairs hkey companion hwords hrem 0
  exact ⟨hfst, hsnd.trans (by simp)⟩

end Sys2Proof.Machine

/-! The multiplier: its sequences, its algorithm, what a multiplication and a power of two have to do with shifts, and
the statements of 40_multiply.md. -/

namespace Sys2Proof.Machine

/-! ## The algorithm -/

/-- R51 facts 1 and 2: the last power of two that fits `b` is that of its top bit. -/
theorem mulSequence_eq_doublingPairs (a : Word) {b : Word} (hb : b.toNat ≠ 0) :
    mulSequence a b = doublingPairs 1 a (Nat.log2 b.toNat + 1) := by
  have hfuel : Nat.log2 b.toNat < 24 := (Nat.log2_lt hb).2 b.isLt
  apply doublings_eq_doublingPairs (by decide) (by omega)
  · simpa using Nat.log2_self_le hb
  · simpa using Nat.lt_log2_self

/-- R51: shift-and-add after the swap, its fast paths included. -/
theorem toNat_mulOrdered (a b : Word) : (mulOrdered a b).toNat = a.toNat * b.toNat % 2 ^ 24 := by
  unfold mulOrdered
  split_ifs with hone hzero
  · rw [hone, show (1 : Word).toNat = 1 from rfl, Nat.mul_one, BitVec.toNat_mod_cancel]
  · subst hzero
    simp
  · have hb : b.toNat ≠ 0 := fun h => hzero (BitVec.eq_of_toNat_eq h)
    have hbits : Nat.log2 b.toNat < 24 := (Nat.log2_lt hb).2 b.isLt
    have hhigh : b.toNat < 2 ^ (Nat.log2 b.toNat + 1) := Nat.lt_log2_self
    have hwords : 2 ^ (Nat.log2 b.toNat + 1) < 2 ^ 25 := Nat.pow_lt_pow_right (by decide) (by omega)
    obtain ⟨-, hproduct⟩ :=
      scan_doublingPairs (key := 1) (by decide) a (by simpa using hwords) (by simpa using hhigh)
    rw [mulSequence_eq_doublingPairs a hb, hproduct]
    simp

/-! ## Products and powers of two -/

@[simp] theorem toNat_mulWord (a b : Word) : (mulWord a b).toNat = a.toNat * b.toNat % 2 ^ 24 :=
  BitVec.toNat_ofNat _ 24

/-- R52. -/
theorem mulWord_comm (a b : Word) : mulWord a b = mulWord b a := by
  rw [mulWord, mulWord, Nat.mul_comm]

theorem toNat_ofNat_two_pow {k : Nat} (hk : k ≤ 23) : (BitVec.ofNat 24 (2 ^ k)).toNat = 2 ^ k :=
  (BitVec.toNat_ofNat ..).trans (Nat.mod_eq_of_lt (Nat.pow_lt_pow_right (by decide) (by omega)))

theorem ofNat_two_pow_ne_zero {k : Nat} (hk : k ≤ 23) : BitVec.ofNat 24 (2 ^ k) ≠ 0 := by
  intro hzero
  have hpos : 0 < 2 ^ k := by positivity
  rw [← toNat_ofNat_two_pow hk, hzero] at hpos
  exact absurd hpos (by decide)

/-- R52, R72. -/
theorem mulWord_two_pow (a : Word) {k : Nat} (hk : k ≤ 23) :
    mulWord a (BitVec.ofNat 24 (2 ^ k)) = shiftLeft a k := by
  rw [mulWord, toNat_ofNat_two_pow hk, shiftLeft, if_neg (by omega)]

/-- R58, R72. -/
theorem quotient_two_pow (a : Word) {k : Nat} (hk : k ≤ 23) :
    quotient a (BitVec.ofNat 24 (2 ^ k)) = shiftRight a k := by
  rw [quotient, toNat_ofNat_two_pow hk, shiftRight, if_neg (by omega)]

/-- R58: the remainder by `2^k` is the low `k` bits. -/
theorem remainder_two_pow (a : Word) {k : Nat} (hk : k ≤ 23) :
    remainder a (BitVec.ofNat 24 (2 ^ k)) = a &&& BitVec.ofNat 24 (2 ^ k - 1) := by
  apply BitVec.eq_of_toNat_eq
  have hmask : 2 ^ k - 1 < 2 ^ 24 := (Nat.sub_le ..).trans_lt (Nat.pow_lt_pow_right (by decide) (by omega))
  rw [remainder, toNat_ofNat_two_pow hk, ← Nat.and_two_pow_sub_one_eq_mod, BitVec.toNat_and, BitVec.toNat_ofNat,
    BitVec.toNat_ofNat, Nat.mod_eq_of_lt hmask, Nat.mod_eq_of_lt (Nat.and_le_left.trans_lt a.isLt)]

/-! ## The statements -/

/-- Settles O50: the sequences are the first `log2 b + 1` doublings of 1 and `a`, and a Word has no bit above 23. -/
theorem mulSequencesEndAtTopBit : Obligations.MulSequencesEndAtTopBit := by
  intro a b hb
  have hbits : Nat.log2 b.toNat < 24 := (Nat.log2_lt (by omega)).2 b.isLt
  rw [mulSequence_eq_doublingPairs a (by omega), length_doublingPairs]
  refine ⟨rfl, hbits, fun i hi => ?_⟩
  simpa using getElem?_doublingPairs 1 a hi

/-- Settles O49: the algorithm after the swap multiplies, and the swap does not change the product. -/
theorem mulAlgorithmComputesProduct : Obligations.MulAlgorithmComputesProduct := by
  intro a b
  unfold mulAlgorithm
  split_ifs
  · rw [toNat_mulOrdered, Nat.mul_comm]
  · exact toNat_mulOrdered a b

/-- Settles O60, by the law of each result Word; the divisor `2^k` is not zero, so neither division faults. -/
theorem powersOfTwoAreShifts : Obligations.PowersOfTwoAreShifts := by
  intro a b k hk
  have hne := ofNat_two_pow_ne_zero hk
  refine ⟨congrArg (Result.ok · 0) (mulWord_comm a b), congrArg (Result.ok · 0) (mulWord_two_pow a hk),
    shiftRight a k.toNat, a &&& BitVec.ofNat 24 (2 ^ k.toNat - 1), ?_, rfl, ?_, rfl⟩
  · rw [← quotient_two_pow a hk, ← remainder_two_pow a hk]
    exact if_neg hne
  · rw [← remainder_two_pow a hk]
    exact if_neg hne

/-- Settles O17: the product is completed without fault. -/
theorem mulGivesLowProduct : Obligations.MulGivesLowProduct :=
  fun a b s => ⟨decode_commandWord 0x1 a b, s.succeed (mulWord a b) 0, rfl, toNat_mulWord a b, rfl,
    rfl, rfl, rfl, rfl⟩

end Sys2Proof.Machine

/-! The divider: its two result Words, its sequences, its algorithm, and the statements of 41_divide_modulo.md. -/

namespace Sys2Proof.Machine

/-! ## Quotient and remainder -/

@[simp] theorem toNat_quotient (a b : Word) : (quotient a b).toNat = a.toNat / b.toNat :=
  (BitVec.toNat_ofNat ..).trans (Nat.mod_eq_of_lt ((Nat.div_le_self ..).trans_lt a.isLt))

@[simp] theorem toNat_remainder (a b : Word) : (remainder a b).toNat = a.toNat % b.toNat :=
  (BitVec.toNat_ofNat ..).trans (Nat.mod_eq_of_lt ((Nat.mod_le ..).trans_lt a.isLt))

/-- R57, R74: a command whose outcome tests the divisor first faults with cause 1 when it is 0, and otherwise completes
with its two result Words. -/
theorem exec_of_divisor_test {i : Instr} {b y r : Word}
    (hi : commandResult i.opcode i.opA i.opB = if b = 0 then .fault .divisionByZero else .ok y r) (s : State) :
    ∃ t, exec i s = .next t ∧
      if b.toNat = 0 then t.faulted 1 else t.y.toNat = y.toNat ∧ t.r.toNat = r.toNat ∧ t.succeeded := by
  refine ⟨_, exec_eq_next_complete i s, ?_⟩
  rw [hi]
  by_cases hb : b = 0
  · rw [if_pos hb, hb]
    exact ⟨rfl, rfl, rfl, rfl⟩
  · rw [if_neg hb, if_neg (BitVec.toNat_pos_of_ne_zero hb).ne']
    exact ⟨rfl, rfl, rfl, rfl, rfl, rfl⟩

/-! ## The sequences -/

/-- R56 fact 2: the largest multiple `b * 2^i` not above `a` has the `i` of the quotient's top bit. -/
theorem mul_two_pow_log2_div_le {a b : Nat} (hb : 0 < b) (hle : b ≤ a) : b * 2 ^ Nat.log2 (a / b) ≤ a :=
  calc b * 2 ^ Nat.log2 (a / b) ≤ b * (a / b) :=
        Nat.mul_le_mul_left b (Nat.log2_self_le (Nat.div_pos hle hb).ne')
    _ ≤ a := Nat.mul_div_le a b

theorem lt_mul_two_pow_log2_div_succ (a : Nat) {b : Nat} (hb : 0 < b) : a < b * 2 ^ (Nat.log2 (a / b) + 1) := by
  rw [Nat.mul_comm, ← Nat.div_lt_iff_lt_mul hb]
  exact Nat.lt_log2_self

theorem log2_toNat_div_lt (a b : Word) : Nat.log2 (a.toNat / b.toNat) < 24 := by
  rw [← toNat_quotient]
  by_cases hzero : (quotient a b).toNat = 0
  · rw [hzero]
    decide
  · exact (Nat.log2_lt hzero).2 (quotient a b).isLt

/-- R56 fact 1: no entry of `d` wraps; the last is at most `a`, or is `b` itself. -/
theorem toNat_mul_two_pow_log2_div_lt (a : Word) {b : Word} (hb : 0 < b.toNat) :
    b.toNat * 2 ^ Nat.log2 (a.toNat / b.toNat) < 2 ^ 24 := by
  obtain hlt | hle := lt_or_ge a.toNat b.toNat
  · rw [Nat.div_eq_of_lt hlt]
    simpa using b.isLt
  · exact (mul_two_pow_log2_div_le hb hle).trans_lt a.isLt

/-- R56 facts 1 and 2: the sequences are the doublings of `b` and of 1 up to the quotient's top bit. -/
theorem divSequence_eq_doublingPairs (a : Word) {b : Word} (hb : b ≠ 0) :
    divSequence a b = doublingPairs b 1 (Nat.log2 (a.toNat / b.toNat) + 1) := by
  have hpos : 0 < b.toNat := BitVec.toNat_pos_of_ne_zero hb
  obtain hlt | hle := lt_or_ge a.toNat b.toNat
  · rw [Nat.div_eq_of_lt hlt, Nat.log2_zero, doublingPairs_one]
    exact doublings_of_lt hb (by omega) 23 1
  · exact doublings_eq_doublingPairs hb (Nat.le_of_lt_succ (log2_toNat_div_lt a b))
      (mul_two_pow_log2_div_le hpos hle) (lt_mul_two_pow_log2_div_succ a.toNat hpos) 1

/-! ## The statements -/

/-- Settles O52: the sequences are the first `log2 (a / b) + 1` doublings of `b` and of 1. -/
theorem divSequencesEndAtLargestMultiple : Obligations.DivSequencesEndAtLargestMultiple := by
  intro a b hb
  have hpos : 0 < b.toNat := BitVec.toNat_pos_of_ne_zero hb
  rw [divSequence_eq_doublingPairs a hb, length_doublingPairs]
  refine ⟨log2_toNat_div_lt a b, fun i hi => ⟨?_, ?_⟩, fun hlt => ?_, fun hle =>
    ⟨mul_two_pow_log2_div_le hpos hle, lt_mul_two_pow_log2_div_succ a.toNat hpos⟩⟩
  · calc b.toNat * 2 ^ i ≤ b.toNat * 2 ^ Nat.log2 (a.toNat / b.toNat) :=
          Nat.mul_le_mul_left _ (Nat.pow_le_pow_right (by decide) (Nat.le_of_lt_succ hi))
      _ < 2 ^ 24 := toNat_mul_two_pow_log2_div_lt a hpos
  · simpa using getElem?_doublingPairs b 1 hi
  · rw [Nat.div_eq_of_lt hlt, Nat.log2_zero]

/-- Settles O51: the scan over the sequences divides; on the fast path, `b = 1`, the quotient is `a` itself. -/
theorem divAlgorithmComputesQuotientAndRemainder : Obligations.DivAlgorithmComputesQuotientAndRemainder := by
  intro a b hb
  unfold divmodAlgorithm
  split_ifs with hone
  · subst hone
    exact ⟨(Nat.div_one _).symm, (Nat.mod_one _).symm⟩
  · have hpos : 0 < b.toNat := BitVec.toNat_pos_of_ne_zero hb
    have hwords : b.toNat * 2 ^ (Nat.log2 (a.toNat / b.toNat) + 1) < 2 ^ 25 := by
      have hlast := toNat_mul_two_pow_log2_div_lt a hpos
      rw [pow_succ, ← mul_assoc]
      omega
    obtain ⟨hrem, hquot⟩ := scan_doublingPairs hpos 1 hwords (lt_mul_two_pow_log2_div_succ a.toNat hpos)
    rw [divSequence_eq_doublingPairs a hb]
    refine ⟨hquot.trans ?_, hrem⟩
    rw [← toNat_quotient, show (1 : Word).toNat = 1 from rfl, Nat.one_mul, BitVec.toNat_mod_cancel]

/-- Settles O57: for `b` other than 0 neither command faults, and the two results are those of `Nat` division. -/
theorem divisionIdentity : Obligations.DivisionIdentity := by
  intro a b hb
  refine ⟨quotient a b, remainder a b, if_neg hb, if_neg hb, ?_, ?_⟩
  · rw [toNat_quotient, toNat_remainder, Nat.div_add_mod']
  · rw [toNat_remainder]
    exact Nat.mod_lt _ (BitVec.toNat_pos_of_ne_zero hb)

/-- Settles O18, by the divisor test of `Exec` for the opcode 2. -/
theorem divGivesQuotientAndRemainder : Obligations.DivGivesQuotientAndRemainder := by
  intro a b s
  rw [← toNat_quotient a b, ← toNat_remainder a b]
  exact ⟨decode_commandWord 0x2 a b, exec_of_divisor_test rfl s⟩

/-- Settles O19, by the divisor test of `Exec` for the opcode 3. -/
theorem modGivesRemainderTwice : Obligations.ModGivesRemainderTwice := by
  intro a b s
  rw [← toNat_remainder a b]
  exact ⟨decode_commandWord 0x3 a b, exec_of_divisor_test rfl s⟩

end Sys2Proof.Machine

/-! The walk over BitTable: the low bits of a word, the extraction of one bit, the indices of the low bits, and the
deposit of one bit. -/

namespace Sys2Proof.Machine

/-! ## The low bits of a word -/

/-- The word of the bits of `v` below bit `n`: what the walk over BitTable has still to extract (R61). -/
def lowBits (v : Word) (n : Nat) : Word := BitVec.ofNat 24 (v.toNat % 2 ^ n)

@[simp] theorem toNat_lowBits (v : Word) (n : Nat) : (lowBits v n).toNat = v.toNat % 2 ^ n :=
  (BitVec.toNat_ofNat ..).trans (Nat.mod_eq_of_lt ((Nat.mod_le ..).trans_lt v.isLt))

@[simp] theorem lowBits_zero (v : Word) : lowBits v 0 = 0 := by
  simp [lowBits, Nat.mod_one]

@[simp] theorem lowBits_word (v : Word) : lowBits v 24 = v :=
  BitVec.eq_of_toNat_eq ((toNat_lowBits v 24).trans (BitVec.toNat_mod_cancel v))

/-- Bit `n` adds its weight to the bits below it. -/
theorem toNat_lowBits_succ (v : Word) (n : Nat) :
    (lowBits v (n + 1)).toNat = (lowBits v n).toNat + 2 ^ n * (v.getLsbD n).toNat := by
  rw [toNat_lowBits, toNat_lowBits, Nat.mod_pow_succ, BitVec.getLsbD, Nat.toNat_testBit]

/-! ## One extraction -/

theorem takeBit_of_le {v t : Word} (h : t ≤ v) : takeBit v t = (sub24 v t, true) := if_pos h

theorem takeBit_of_not_le {v t : Word} (h : ¬t ≤ v) : takeBit v t = (v, false) := if_neg h

/-- R60, R61: the weight of bit `n` is at most the bits up to `n` exactly when bit `n` is set. -/
theorem takeBit_lowBits_succ (v : Word) {n : Nat} (hn : n < 24) :
    takeBit (lowBits v (n + 1)) (BitVec.twoPow 24 n) = (lowBits v n, v.getLsbD n) := by
  have hsplit := toNat_lowBits_succ v n
  have hweight : (BitVec.twoPow 24 n).toNat = 2 ^ n := BitVec.toNat_twoPow_of_lt hn
  cases hbit : v.getLsbD n with
  | true =>
    rw [hbit, Bool.toNat_true, mul_one] at hsplit
    have hle : BitVec.twoPow 24 n ≤ lowBits v (n + 1) := by
      rw [BitVec.le_def]
      omega
    have hrest : sub24 (lowBits v (n + 1)) (BitVec.twoPow 24 n) = lowBits v n := by
      apply BitVec.eq_of_toNat_eq
      rw [toNat_sub24_of_le hle]
      omega
    rw [takeBit_of_le hle, hrest]
  | false =>
    rw [hbit, Bool.toNat_false, mul_zero, add_zero] at hsplit
    have hlow : (lowBits v n).toNat < 2 ^ n := by
      rw [toNat_lowBits]
      exact Nat.mod_lt _ (by positivity)
    have hlt : ¬BitVec.twoPow 24 n ≤ lowBits v (n + 1) := by
      rw [BitVec.le_def]
      omega
    rw [takeBit_of_not_le hlt, BitVec.eq_of_toNat_eq hsplit]

/-! ## The indices of the low bits -/

/-- The table index of bit `n` (R28). -/
def bitIndex (n : Nat) : Fin 24 := ⟨23 - n, by omega⟩

@[simp] theorem T_bitIndex {n : Nat} (hn : n < 24) : T (bitIndex n) = BitVec.twoPow 24 n := by
  have hplace : 23 - (bitIndex n).1 = n := by
    dsimp only [bitIndex]
    omega
  rw [T_eq_twoPow, hplace]

/-- The last `n` table indices, those of the bits below bit `n`. -/
def lowIndices (n : Nat) : List (Fin 24) := tableIndices.drop (24 - n)

@[simp] theorem lowIndices_zero : lowIndices 0 = [] := rfl

@[simp] theorem lowIndices_word : lowIndices 24 = tableIndices := rfl

theorem lowIndices_succ {n : Nat} (hn : n < 24) : lowIndices (n + 1) = bitIndex n :: lowIndices n := by
  have hlen : 24 - (n + 1) < tableIndices.length := by
    rw [tableIndices, List.length_finRange]
    omega
  rw [lowIndices, List.drop_eq_getElem_cons hlen, lowIndices, show 24 - (n + 1) + 1 = 24 - n by omega]
  congr 1
  simp [tableIndices, bitIndex]

/-- R61: over the indices of the low bits the greedy extraction gives those bits, from the top down, and leaves 0. -/
theorem extractBits_lowBits (v : Word) {n : Nat} (hn : n ≤ 24) :
    extractBits (lowBits v n) (lowIndices n) = ((List.range n).reverse.map v.getLsbD, 0) := by
  induction n with
  | zero => simp [extractBits]
  | succ n ih =>
    rw [lowIndices_succ hn, extractBits, T_bitIndex hn, takeBit_lowBits_succ v hn, ih (by omega)]
    simp [List.range_succ]

/-! ## One deposit -/

/-- R65, R66: depositing a bit at a clear place sets that place to the bit and carries nowhere. -/
theorem getLsbD_deposit {y : Word} {n : Nat} (hclear : y.getLsbD n = false) (c : Bool) {k : Nat} (hk : k < 24) :
    (if c then add24 y (BitVec.twoPow 24 n) else y).getLsbD k = if k = n then c else y.getLsbD k := by
  have hdisjoint : y &&& BitVec.twoPow 24 n = 0 := by
    rw [BitVec.and_twoPow, hclear]
    rfl
  cases c with
  | true =>
    rw [if_pos rfl, add24, BitVec.add_eq_or_of_and_eq_zero _ _ hdisjoint, BitVec.getLsbD_or, BitVec.getLsbD_twoPow]
    by_cases h : k = n
    · simp [h, show n < 24 by omega]
    · simp [h, Ne.symm h]
  | false =>
    by_cases h : k = n
    · simp [h, hclear]
    · simp [h]

end Sys2Proof.Machine

/-! The LOGIC sub-unit: its algorithm, that of NOT, and the statements of 42_bitwise.md. -/

namespace Sys2Proof.Machine

/-! ## The algorithms -/

/-- The invariant of R66: with the bits from `n` up combined in `y` and those below extracted from neither word, the
rest of the walk combines the bits below `n` and keeps `y` above them. -/
theorem getLsbD_foldl_logicStep (f : Bool → Bool → Bool) (a b : Word) {n : Nat} (hn : n ≤ 24) {y : Word}
    (hclear : ∀ j < n, y.getLsbD j = false) {k : Nat} (hk : k < 24) :
    ((lowIndices n).foldl (logicStep f) (lowBits a n, lowBits b n, y)).2.2.getLsbD k =
      if k < n then f (a.getLsbD k) (b.getLsbD k) else y.getLsbD k := by
  induction n generalizing y with
  | zero => simp
  | succ n ih =>
    have hdeposit {j : Nat} (hj : j < 24) := getLsbD_deposit (hclear n n.lt_succ_self)
      (f (a.getLsbD n) (b.getLsbD n)) hj
    rw [lowIndices_succ hn, List.foldl_cons, logicStep, T_bitIndex hn, takeBit_lowBits_succ a hn,
      takeBit_lowBits_succ b hn, ih (by omega), hdeposit hk]
    · obtain hlt | rfl | hgt := lt_trichotomy k n
      · simp [hlt, Nat.lt_succ_of_lt hlt]
      · simp
      · simp [hgt.not_gt, hgt.ne', Nat.not_lt.2 hgt]
    · intro j hj
      rw [hdeposit (by omega), if_neg hj.ne]
      exact hclear j (Nat.lt_succ_of_lt hj)

/-- R66: the whole walk combines all 24 bits. -/
theorem getLsbD_logicAlgorithm (f : Bool → Bool → Bool) (a b : Word) {k : Nat} (hk : k < 24) :
    (logicAlgorithm f a b).getLsbD k = f (a.getLsbD k) (b.getLsbD k) := by
  have hwalk := getLsbD_foldl_logicStep f a b le_rfl (y := 0) (by simp) hk
  rwa [lowBits_word, lowBits_word, lowIndices_word, if_pos hk] at hwalk

/-- R65: the walk of NOT is that of LOGIC for the bit function that negates its first argument. -/
theorem notAlgorithm_eq_logicAlgorithm (a b : Word) :
    notAlgorithm a = logicAlgorithm (fun x _ => !x) a b := by
  have hstep (s : Word × Word × Word) (i : Fin 24) :
      notStep (s.1, s.2.2) i =
        ((logicStep (fun x _ => !x) s i).1, (logicStep (fun x _ => !x) s i).2.2) := by
    cases hbit : (takeBit s.1 (T i)).2 <;> simp [notStep, logicStep, hbit]
  have hwalk := List.foldl_hom (l := tableIndices) (init := (a, b, 0))
    (fun s : Word × Word × Word => (s.1, s.2.2)) hstep
  rw [notAlgorithm, logicAlgorithm, hwalk]

/-- R65: NOT's algorithm complements the word. -/
theorem notAlgorithm_eq_not (a : Word) : notAlgorithm a = ~~~a := by
  apply BitVec.eq_of_getLsbD_eq
  intro k hk
  rw [notAlgorithm_eq_logicAlgorithm a 0, getLsbD_logicAlgorithm _ a 0 hk]
  simp [hk]

/-! ## AND and OR together -/

/-- R66: bit by bit, the AND and the OR of two words hold the ones of both. -/
theorem toNat_lowBits_and_add_or (a b : Word) (n : Nat) :
    (lowBits (a &&& b) n).toNat + (lowBits (a ||| b) n).toNat = (lowBits a n).toNat + (lowBits b n).toNat := by
  induction n with
  | zero => simp
  | succ n ih =>
    have hbit : (a.getLsbD n && b.getLsbD n).toNat + (a.getLsbD n || b.getLsbD n).toNat =
        (a.getLsbD n).toNat + (b.getLsbD n).toNat := by
      cases a.getLsbD n <;> cases b.getLsbD n <;> rfl
    have hweighted := congrArg (2 ^ n * ·) hbit
    simp only [mul_add] at hweighted
    simp only [toNat_lowBits_succ, BitVec.getLsbD_and, BitVec.getLsbD_or]
    omega

/-! ## The statements -/

/-- Settles O53, by the walk over the whole table. -/
theorem logicAlgorithmCombinesBits : Obligations.LogicAlgorithmCombinesBits :=
  fun f a b _ hk => getLsbD_logicAlgorithm f a b hk

/-- Settles O48: over the whole table the extracted bits are all 24, from the top down. -/
theorem greedyExtractionIsExact : Obligations.GreedyExtractionIsExact := by
  intro v
  have hbits := extractBits_lowBits v le_rfl
  rw [lowBits_word, lowIndices_word] at hbits
  rw [hbits]
  refine ⟨rfl, by simp, fun i hi => ?_⟩
  simp [hi]

/-- Settles O23: the complement is what the walk computes, and no command NOT faults. -/
theorem notComplementsTheWord : Obligations.NotComplementsTheWord := by
  intro a b s
  refine ⟨decode_commandWord 0x7 a b, s.succeed (~~~a) 0, rfl, fun k hk => ?_, BitVec.toNat_not,
    (notAlgorithm_eq_not a).symm, rfl, rfl, rfl, rfl, rfl⟩
  simp [hk]

/-- Settles O58, from the sums of the low bits. -/
theorem andPlusOrIsSum : Obligations.AndPlusOrIsSum := by
  intro a b
  refine ⟨a &&& b, a ||| b, rfl, rfl, ?_⟩
  simpa only [lowBits_word] using toNat_lowBits_and_add_or a b 24

/-- Settles O20: the AND of the two words is completed without fault. -/
theorem andCombinesBits : Obligations.AndCombinesBits :=
  fun a b s => ⟨decode_commandWord 0x4 a b, s.succeed (a &&& b) 0, rfl, fun _ _ => BitVec.getLsbD_and, rfl,
    rfl, rfl, rfl, rfl⟩

/-- Settles O21: the OR of the two words is completed without fault. -/
theorem orCombinesBits : Obligations.OrCombinesBits :=
  fun a b s => ⟨decode_commandWord 0x5 a b, s.succeed (a ||| b) 0, rfl, fun _ _ => BitVec.getLsbD_or, rfl,
    rfl, rfl, rfl, rfl⟩

/-- Settles O22: the XOR of the two words is completed without fault. -/
theorem xorCombinesBits : Obligations.XorCombinesBits :=
  fun a b s => ⟨decode_commandWord 0x6 a b, s.succeed (a ^^^ b) 0, rfl, fun _ _ => BitVec.getLsbD_xor, rfl,
    rfl, rfl, rfl, rfl⟩

/-- Settles O47: the bit is taken exactly when the threshold is at most the value, so nothing is borrowed. -/
theorem takeBitSubtractsWithoutBorrow : Obligations.TakeBitSubtractsWithoutBorrow := by
  intro v t
  split_ifs with hle
  · rw [takeBit_of_le hle]
    exact ⟨toNat_sub24_of_le hle, rfl⟩
  · exact takeBit_of_not_le hle

end Sys2Proof.Machine

/-! The shifter: its two result Words, the walk that its two algorithms share, and the statements of 43_shift.md. -/

namespace Sys2Proof.Machine

/-! ## The two result Words -/

/-- R68: an amount of 24 or more shifts every bit out, so one shift of the word covers both branches. -/
theorem shiftLeft_eq (a : Word) (s : Nat) : shiftLeft a s = a <<< s := by
  unfold shiftLeft
  split_ifs with hs
  · exact (BitVec.shiftLeft_eq_zero hs).symm
  · apply BitVec.eq_of_toNat_eq
    rw [BitVec.toNat_ofNat, BitVec.toNat_shiftLeft, Nat.shiftLeft_eq]

/-- R70: an amount of 24 or more shifts every bit out, so one shift of the word covers both branches. -/
theorem shiftRight_eq (a : Word) (s : Nat) : shiftRight a s = a >>> s := by
  unfold shiftRight
  split_ifs with hs
  · exact (BitVec.ushiftRight_eq_zero hs).symm
  · apply BitVec.eq_of_toNat_eq
    rw [BitVec.toNat_ofNat, BitVec.toNat_ushiftRight, Nat.shiftRight_eq_div_pow,
      Nat.mod_eq_of_lt ((Nat.div_le_self ..).trans_lt a.isLt)]

@[simp] theorem toNat_shiftLeft (a : Word) (s : Nat) : (shiftLeft a s).toNat = a.toNat * 2 ^ s % 2 ^ 24 := by
  rw [shiftLeft_eq, BitVec.toNat_shiftLeft, Nat.shiftLeft_eq]

@[simp] theorem toNat_shiftRight (a : Word) (s : Nat) : (shiftRight a s).toNat = a.toNat / 2 ^ s := by
  rw [shiftRight_eq, BitVec.toNat_ushiftRight, Nat.shiftRight_eq_div_pow]

theorem shiftLeft_of_le (a : Word) {s : Nat} (hs : 24 ≤ s) : shiftLeft a s = 0 := if_pos hs

theorem shiftRight_of_le (a : Word) {s : Nat} (hs : 24 ≤ s) : shiftRight a s = 0 := if_pos hs

theorem getLsbD_shiftLeft (a : Word) (s : Nat) {k : Nat} (hk : k < 24) :
    (shiftLeft a s).getLsbD k = (decide (s ≤ k) && a.getLsbD (k - s)) := by
  simp only [shiftLeft_eq, BitVec.getLsbD_shiftLeft, hk, decide_true, Bool.true_and, ← decide_not, Nat.not_lt]

theorem getLsbD_shiftRight (a : Word) (s k : Nat) : (shiftRight a s).getLsbD k = a.getLsbD (k + s) := by
  rw [shiftRight_eq, BitVec.getLsbD_ushiftRight, Nat.add_comm]

/-- A Word has no bit above 23 (R1). -/
theorem getLsbD_eq_decide_and (a : Word) (k : Nat) : a.getLsbD k = (decide (k ≤ 23) && a.getLsbD k) := by
  by_cases hk : k ≤ 23
  · simp [hk]
  · simp [hk, BitVec.getLsbD_of_ge a k (by omega)]

/-- R70: the top `s` bits of the shifted word are zero. -/
theorem lowBits_shiftRight (a : Word) {s : Nat} (hs : s ≤ 24) :
    lowBits (shiftRight a s) (24 - s) = shiftRight a s := by
  have hlt : a.toNat / 2 ^ s < 2 ^ (24 - s) := by
    apply Nat.div_lt_of_lt_mul
    rw [pow_mul_pow_sub 2 hs]
    exact a.isLt
  apply BitVec.eq_of_toNat_eq
  rw [toNat_lowBits, toNat_shiftRight, Nat.mod_eq_of_lt hlt]

/-! ## The walk -/

/-- One iteration of R69 and of R71 on `(w, y)`: extract at `i − e`, deposit at `i − d`. -/
def moveStep (e d : Nat) (p : Word × Word) (i : Fin 24) : Word × Word :=
  let q := takeBit p.1 (T ⟨i.1 - e, by omega⟩)
  (q.1, if q.2 then add24 p.2 (T ⟨i.1 - d, by omega⟩) else p.2)

theorem shlStep_eq_moveStep (s : Nat) : shlStep s = moveStep 0 s := rfl

theorem shrStep_eq_moveStep (s : Nat) : shrStep s = moveStep s 0 := rfl

/-- The entry `s` indices before that of bit `n` is that of bit `n + s`. -/
theorem T_bitIndex_sub {n s : Nat} (h : n + s < 24) :
    T ⟨(bitIndex n).1 - s, by omega⟩ = BitVec.twoPow 24 (n + s) := by
  rw [← T_bitIndex h]
  congr 1
  simp only [bitIndex, Fin.mk.injEq]
  omega

/-- Modulo `2^24` a deposit adds the weight of the bit, whatever the word deposited into. -/
theorem toNat_deposit (y : Word) {n : Nat} (hn : n < 24) (c : Bool) :
    (if c then add24 y (BitVec.twoPow 24 n) else y).toNat = (y.toNat + 2 ^ n * c.toNat) % 2 ^ 24 := by
  cases c with
  | true => rw [if_pos rfl, toNat_add24, BitVec.toNat_twoPow_of_lt hn, Bool.toNat_true, mul_one]
  | false => rw [if_neg Bool.false_ne_true, Bool.toNat_false, mul_zero, add_zero, BitVec.toNat_mod_cancel]

/-- The step at the index of bit `n` moves bit `n + e` of the word to the place `n + d`. -/
theorem moveStep_lowBits (v y : Word) {e d n : Nat} (he : n + e < 24) (hd : n + d < 24) :
    moveStep e d (lowBits v (n + 1 + e), y) (bitIndex n) =
      (lowBits v (n + e), if v.getLsbD (n + e) then add24 y (BitVec.twoPow 24 (n + d)) else y) := by
  rw [moveStep, T_bitIndex_sub he, T_bitIndex_sub hd, Nat.add_right_comm, takeBit_lowBits_succ v he]

/-- The invariant of R69 and of R71: over the last `n` indices the walk moves the `n` bits from bit `e` up to the
places from `d` up. -/
theorem toNat_foldl_moveStep (v : Word) {e d n : Nat} (he : n + e ≤ 24) (hd : n + d ≤ 24) (y : Word) :
    ((lowIndices n).foldl (moveStep e d) (lowBits v (n + e), y)).2.toNat =
      (y.toNat + 2 ^ d * (lowBits (shiftRight v e) n).toNat) % 2 ^ 24 := by
  induction n generalizing y with
  | zero =>
    rw [lowIndices_zero, List.foldl_nil, lowBits_zero, show (0 : Word).toNat = 0 from rfl, mul_zero, add_zero,
      BitVec.toNat_mod_cancel]
  | succ n ih =>
    have hsplit := toNat_lowBits_succ (shiftRight v e) n
    rw [getLsbD_shiftRight] at hsplit
    rw [lowIndices_succ (by omega), List.foldl_cons, moveStep_lowBits v y (by omega) (by omega),
      ih (by omega) (by omega), toNat_deposit y (by omega), hsplit, Nat.mod_add_mod]
    congr 1
    ring

/-- R69: the discard walk over the first `s` indices leaves the bits below the top `s`. -/
theorem foldl_takeBit_take (a : Word) {s : Nat} (hs : s ≤ 24) :
    (tableIndices.take s).foldl (fun w i => (takeBit w (T i)).1) a = lowBits a (24 - s) := by
  induction s with
  | zero => simp
  | succ s ih =>
    have hlen : s < tableIndices.length := by rwa [tableIndices, List.length_finRange]
    have hindex : tableIndices[s] = bitIndex (23 - s) := by
      simp only [tableIndices, List.getElem_finRange, bitIndex, Fin.ext_iff, Fin.val_cast]
      omega
    rw [List.take_succ_eq_append_getElem hlen, List.foldl_concat, ih (by omega), hindex, T_bitIndex (by omega),
      show 24 - s = 23 - s + 1 by omega, takeBit_lowBits_succ a (by omega), show 24 - (s + 1) = 23 - s by omega]

theorem drop_tableIndices {s : Nat} (hs : s ≤ 24) : tableIndices.drop s = lowIndices (24 - s) := by
  rw [lowIndices, Nat.sub_sub_self hs]

/-! ## The algorithms -/

/-- R69: after the discard walk the low `24 - s` bits are moved up by `s`. -/
theorem shlAlgorithm_eq_shiftLeft (a : Word) (s : Nat) : shlAlgorithm a s = shiftLeft a s := by
  unfold shlAlgorithm
  split_ifs with hs
  · exact (shiftLeft_of_le a hs).symm
  · have hle : s ≤ 24 := by omega
    rw [drop_tableIndices hle, foldl_takeBit_take a hle, shlStep_eq_moveStep]
    apply BitVec.eq_of_toNat_eq
    calc _ = 2 ^ s * (a.toNat % 2 ^ (24 - s)) % 2 ^ 24 := by
          simpa using toNat_foldl_moveStep a (e := 0) (d := s) (n := 24 - s) (by omega) (by omega) 0
      _ = (shiftLeft a s).toNat := by
          rw [← Nat.mul_mod_mul_left, pow_mul_pow_sub 2 hle, Nat.mod_mod, Nat.mul_comm, toNat_shiftLeft]

/-- R71: the top `24 - s` bits are moved down by `s`. -/
theorem shrAlgorithm_eq_shiftRight (a : Word) (s : Nat) : shrAlgorithm a s = shiftRight a s := by
  unfold shrAlgorithm
  split_ifs with hs
  · exact (shiftRight_of_le a hs).symm
  · have hle : s ≤ 24 := by omega
    have hwalk := toNat_foldl_moveStep a (e := s) (d := 0) (n := 24 - s) (by omega) (by omega) 0
    rw [Nat.sub_add_cancel hle, lowBits_word, lowBits_shiftRight a hle, pow_zero, Nat.one_mul,
      show (0 : Word).toNat = 0 from rfl, Nat.zero_add, BitVec.toNat_mod_cancel] at hwalk
    rw [drop_tableIndices hle, shrStep_eq_moveStep]
    exact BitVec.eq_of_toNat_eq hwalk

/-! ## The statements -/

/-- Settles O54: the walk computes the result Word of SHL. -/
theorem shlAlgorithmShiftsLeft : Obligations.ShlAlgorithmShiftsLeft := by
  intro a n
  rw [shlAlgorithm_eq_shiftLeft]
  split_ifs with hn
  · rw [shiftLeft_of_le a hn]
    rfl
  · exact toNat_shiftLeft a n

/-- Settles O55: the walk computes the result Word of SHR. -/
theorem shrAlgorithmShiftsRight : Obligations.ShrAlgorithmShiftsRight := by
  intro a n
  rw [shrAlgorithm_eq_shiftRight]
  split_ifs with hn
  · rw [shiftRight_of_le a hn]
    rfl
  · exact toNat_shiftRight a n

/-- Settles O24: no command SHL faults, and its result Word is 0 from the amount 24 on. -/
theorem shlShiftsLeft : Obligations.ShlShiftsLeft := by
  intro a b s
  refine ⟨decode_commandWord 0x8 a b, s.succeed (shiftLeft a b.toNat) 0, rfl, rfl, ⟨rfl, rfl, rfl, rfl⟩, ?_⟩
  split_ifs with hb
  · exact shiftLeft_of_le a hb
  · exact ⟨toNat_shiftLeft a b.toNat, fun _ hk => getLsbD_shiftLeft a b.toNat hk⟩

/-- Settles O25: no command SHR faults, and its result Word is 0 from the amount 24 on. -/
theorem shrShiftsRight : Obligations.ShrShiftsRight := by
  intro a b s
  refine ⟨decode_commandWord 0x9 a b, s.succeed (shiftRight a b.toNat) 0, rfl, rfl, ⟨rfl, rfl, rfl, rfl⟩, ?_⟩
  split_ifs with hb
  · exact shiftRight_of_le a hb
  · exact ⟨toNat_shiftRight a b.toNat, fun k _ =>
      (getLsbD_shiftRight a b.toNat k).trans (getLsbD_eq_decide_and a (k + b.toNat))⟩

/-- Settles O59, from the values of the four result Words. -/
theorem shiftThereAndBack : Obligations.ShiftThereAndBack := by
  intro a n hn
  refine ⟨shiftLeft a n.toNat, shiftRight (shiftLeft a n.toNat) n.toNat, shiftRight a n.toNat,
    shiftLeft (shiftRight a n.toNat) n.toNat, rfl, rfl, ?_, rfl, rfl, ?_⟩
  · have hword : 2 ^ 24 = 2 ^ (24 - n.toNat) * 2 ^ n.toNat := (pow_sub_mul_pow 2 (by omega)).symm
    rw [toNat_shiftRight, toNat_shiftLeft, hword, Nat.mul_mod_mul_right, Nat.mul_div_cancel _ (by positivity)]
  · rw [toNat_shiftLeft, toNat_shiftRight, Nat.div_mul_self_eq_mod_sub_self,
      Nat.mod_eq_of_lt ((Nat.sub_le ..).trans_lt a.isLt)]

end Sys2Proof.Machine

/-! The condition of each outcome of `Exec` (R73, R74, R75, R86), what a completion does to the model's own counters,
and the statements of 60_exceptions.md. -/

namespace Sys2Proof.Machine

/-! ## When a command faults -/

/-- R74: DIV and MOD by 0. -/
theorem commandResult_of_division_by_zero {op : Opcode} (h : op = 0x2 ∨ op = 0x3) (a : Word) :
    commandResult op a 0 = .fault .divisionByZero := by
  obtain rfl | rfl := h <;> rfl

/-- R42, R45: the opcodes that are not reserved are those of DIV and MOD and of seven operations more. -/
theorem opcode_cases_of_not_reserved {op : Opcode} (h : ¬(op = 0x0 ∨ 0xA ≤ op.toNat)) :
    op = 0x2 ∨ op = 0x3 ∨ op = 0x1 ∨ op = 0x4 ∨ op = 0x5 ∨ op = 0x6 ∨ op = 0x7 ∨ op = 0x8 ∨ op = 0x9 := by
  revert op
  decide

/-- R86: nothing else faults, since of the nine operations only DIV and MOD test the divisor. -/
theorem exists_commandResult_eq_ok {op : Opcode} {b : Word} (hdivisor : ¬((op = 0x2 ∨ op = 0x3) ∧ b = 0))
    (hreserved : ¬(op = 0x0 ∨ 0xA ≤ op.toNat)) (a : Word) : ∃ y r, commandResult op a b = .ok y r := by
  obtain rfl | rfl | hother := opcode_cases_of_not_reserved hreserved
  · have hb : b ≠ 0 := fun hb => hdivisor ⟨.inl rfl, hb⟩
    exact ⟨quotient a b, remainder a b, if_neg hb⟩
  · have hb : b ≠ 0 := fun hb => hdivisor ⟨.inr rfl, hb⟩
    exact ⟨remainder a b, remainder a b, if_neg hb⟩
  · obtain rfl | rfl | rfl | rfl | rfl | rfl | rfl := hother <;> exact ⟨_, _, rfl⟩

/-! ## The model's own counters -/

/-- Log entries 4 and 5: a completion draws and marks exactly when it reports a fault. -/
theorem complete_draws_faultMark (s : State) (o : Result) :
    ((s.complete o).err = false → (s.complete o).draws = s.draws ∧ (s.complete o).faultMark = s.faultMark) ∧
    ((s.complete o).err = true → (s.complete o).draws = s.draws + 2 ∧ (s.complete o).faultMark = true) := by
  cases o with
  | ok y r => simp
  | fault c => simp

/-! ## The next accept -/

/-- R20, R80: an idle block accepts the command presented to it; the accept clears the status of the command before. -/
theorem exists_step_of_presents {s : State} {i : Instr} (hreset : s.wasReset = true) (hbusy : s.busy = false)
    (hpresents : s.nextEdge.presents i) :
    ∃ u, step s = .next u ∧ u.registers = ⟨i.opcode, i.opA, i.opB, s.y, s.r, true, false, false, 0⟩ := by
  obtain ⟨hrst, hstart, hop, ha, hb⟩ := hpresents
  exact ⟨_, step_eq_acceptStep hreset hrst hbusy hstart, by simp [hop, ha, hb]⟩

/-! ## The statements -/

/-- Settles O28, by the three outcomes of `Exec`. -/
theorem exactlyTwoFaultCauses : Obligations.ExactlyTwoFaultCauses := by
  intro i s
  obtain ⟨hsame, -⟩ := s.complete_frame (commandResult i.opcode i.opA i.opB)
  refine ⟨_, exec_eq_next_complete i s, hsame, ?_⟩
  split_ifs with hdivisor hreserved
  · obtain ⟨hop, hb⟩ := hdivisor
    rw [hb, commandResult_of_division_by_zero hop]
    exact ⟨rfl, rfl⟩
  · rw [commandResult_of_reserved hreserved]
    exact ⟨rfl, rfl⟩
  · obtain ⟨y, r, hok⟩ := exists_commandResult_eq_ok hdivisor hreserved i.opA
    rw [hok]
    exact ⟨rfl, rfl⟩

/-- Settles O30: a command's meaning is a completion. -/
theorem onlyFaultsDrawUnspecifiedWords : Obligations.OnlyFaultsDrawUnspecifiedWords := by
  intro i s t hexec
  rw [exec_eq_next_complete] at hexec
  cases hexec
  exact complete_draws_faultMark s _

/-- Settles O31: the faulted completion leaves the block idle, with the edge of the next command before it. -/
theorem faultIsClearedByNextAccept : Obligations.FaultIsClearedByNextAccept := by
  intro s p q rest c i hreset hbusy hedges hdue hpresents hfault
  have hdueNext : s.nextEdge.due := by simpa [State.nextEdge, hedges] using hdue
  have hcomplete : step s = .next (s.clockEdge.takeFault c) := by
    rw [step_eq_complete hreset hbusy hdueNext, hfault, complete_fault]
  have hpresentsNext : (s.clockEdge.takeFault c).nextEdge.presents i := by
    simpa [State.nextEdge, hedges] using hpresents
  obtain ⟨u, haccept, hregisters⟩ := exists_step_of_presents (s := s.clockEdge.takeFault c) hreset rfl hpresentsNext
  exact ⟨_, u, hcomplete, ⟨rfl, rfl, rfl, rfl⟩, haccept, hregisters⟩

/-- Settles O15: both edges make a reset step, which reads nothing else of its edge. -/
theorem resetBeatsEveryOtherInput : Obligations.ResetBeatsEveryOtherInput := by
  intro s p q rest hp hq
  rw [step_eq_resetStep (s := { s with edges := p :: rest }) hp,
    step_eq_resetStep (s := { s with edges := q :: rest }) hq]
  rfl

end Sys2Proof.Machine

/-! The edges before the first reset and those at which an idle block is left alone (R88, R89, R95), the iteration
counts of the algorithms (R99), and the statements of 70_reset_and_hazards.md. -/

namespace Sys2Proof.Machine

/-! ## Edges that make no step, or no change -/

/-- R89. -/
theorem step_eq_refused {s : State} (hreset : s.wasReset = false) (hrst : s.nextEdge.rst = false) :
    step s = .refused .beforeFirstReset := by
  simp [step, State.stepKind_notYetReset hrst hreset]

/-- R22, R95: an idle block stays as it is while no command is presented. -/
theorem run_silent {s : State} {ws rest : List Edge} (hreset : s.wasReset = true) (hbusy : s.busy = false)
    (hsilent : ∀ w ∈ ws, w.silent) (hedges : s.edges = ws ++ rest) :
    core.run ws.length s = .next { s with edges := rest } :=
  run_of_edges_without_effect (fun w hw _ => step_eq_clockEdge_of_silent hreset hbusy (hsilent w hw)) hedges

/-! ## Iteration counts of MUL -/

theorem mulIterations_of_min_le_one {a b : Word} (h : min a.toNat b.toNat ≤ 1) : mulIterations a b = ⟨0, 0⟩ :=
  if_pos h

theorem length_mulSequence (a : Word) {b : Word} (hb : b.toNat ≠ 0) :
    (mulSequence a b).length = Nat.log2 b.toNat + 1 := by
  rw [mulSequence_eq_doublingPairs a hb, length_doublingPairs]

/-- R99: after the swap the second operand is the smaller one, and its top bit ends the sequences. -/
theorem mulIterations_of_two_le_min {a b : Word} (h : 2 ≤ min a.toNat b.toNat) :
    mulIterations a b = ⟨Nat.log2 (min a.toNat b.toNat) + 1, Nat.log2 (min a.toNat b.toNat) + 1⟩ := by
  obtain ⟨ha, hb⟩ := le_min_iff.1 h
  rw [mulIterations, if_neg (by omega)]
  by_cases hswap : a < b
  · rw [if_pos hswap, length_mulSequence b (by omega), min_eq_left (BitVec.lt_def.1 hswap).le]
  · rw [if_neg hswap, length_mulSequence a (by omega), min_eq_right (BitVec.le_def.1 (BitVec.not_lt.1 hswap))]

theorem log2_min_toNat_lt {a b : Word} (h : 2 ≤ min a.toNat b.toNat) : Nat.log2 (min a.toNat b.toNat) < 24 :=
  (Nat.log2_lt (by omega)).2 (min_lt_of_left_lt a.isLt)

/-! ## Iteration counts of DIV and MOD -/

/-- R99: the sequences end at the quotient's top bit. -/
theorem divIterations_of_two_le (a : Word) {b : Word} (hb : 2 ≤ b.toNat) :
    divIterations a b = ⟨Nat.log2 (a.toNat / b.toNat) + 1, Nat.log2 (a.toNat / b.toNat) + 1⟩ := by
  have hone : b ≠ 1 := by
    rintro rfl
    exact absurd hb (by decide)
  have hzero : b ≠ 0 := by
    rintro rfl
    exact absurd hb (by decide)
  rw [divIterations, if_neg hone, divSequence_eq_doublingPairs a hzero, length_doublingPairs]

/-- R99, the note on the divider's worst case: `2 * 2^n ≤ b * 2^n < 2^24`. -/
theorem log2_toNat_div_le_22 (a : Word) {b : Word} (hb : 2 ≤ b.toNat) : Nat.log2 (a.toNat / b.toNat) ≤ 22 := by
  have hpow : 2 ^ (Nat.log2 (a.toNat / b.toNat) + 1) < 2 ^ 24 :=
    calc 2 ^ (Nat.log2 (a.toNat / b.toNat) + 1) = 2 * 2 ^ Nat.log2 (a.toNat / b.toNat) := Nat.pow_succ'
      _ ≤ b.toNat * 2 ^ Nat.log2 (a.toNat / b.toNat) := Nat.mul_le_mul_right _ hb
      _ < 2 ^ 24 := toNat_mul_two_pow_log2_div_lt a (by omega)
  have hlt := (Nat.pow_lt_pow_iff_right (by decide)).1 hpow
  omega

/-- R99: no larger power than that of the quotient's top bit takes a multiple of the divisor that fits. -/
theorem le_log2_div_of_mul_two_pow_le {a b i : Nat} (hb : 0 < b) (hle : b * 2 ^ i ≤ a) : i ≤ Nat.log2 (a / b) := by
  have hpow : 2 ^ i < 2 ^ (Nat.log2 (a / b) + 1) :=
    Nat.lt_of_mul_lt_mul_left (hle.trans_lt (lt_mul_two_pow_log2_div_succ a hb))
  exact Nat.le_of_lt_succ ((Nat.pow_lt_pow_iff_right (by decide)).1 hpow)

/-! ## Iteration counts of the table walks -/

@[simp] theorem length_tableIndices : tableIndices.length = 24 := List.length_finRange

/-- R99: the discard walk and the deposits together pass every index once. -/
theorem shlIterations_of_le {n : Nat} (hn : n ≤ 23) : shlIterations n = ⟨0, 24⟩ := by
  rw [shlIterations, if_neg (by omega), ← List.length_append, List.take_append_drop, length_tableIndices]

theorem shrIterations_of_le {n : Nat} (hn : n ≤ 23) : shrIterations n = ⟨0, 24 - n⟩ := by
  rw [shrIterations, if_neg (by omega), List.length_drop, length_tableIndices]

/-! ## The statements -/

/-- Settles O43, by the run over silent edges. -/
theorem resultsStayUntilNextAccept : Obligations.ResultsStayUntilNextAccept :=
  fun _ _ _ hreset hbusy hsilent hedges => ⟨_, run_silent hreset hbusy hsilent hedges, rfl, rfl⟩

/-- Settles O44: the reset step leaves an idle block of zeros, and the silent edges after it change nothing. -/
theorem resetAbandonsCommandInFlight : Obligations.ResetAbandonsCommandInFlight := by
  intro s p ws rest _ hrst hsilent hedges
  have hreset : step s = .next s.clockEdge.resetStep := step_eq_resetStep (by simpa [State.nextEdge, hedges] using hrst)
  have hrun : core.run ws.length s.clockEdge.resetStep = .next { s.clockEdge.resetStep with edges := rest } :=
    run_silent rfl rfl hsilent (by simp [hedges])
  exact ⟨_, (run_succ hreset ws.length).trans hrun, rfl⟩

/-- Settles O56, row by row of the table of R99: MUL, DIV and MOD, the logic operations, and the shifts. -/
theorem iterationCountsAreBounded : Obligations.IterationCountsAreBounded := by
  refine ⟨fun a b => mulIterations_of_min_le_one, fun a b hmin => ?_, fun a => if_pos rfl, fun a b hb => ?_, rfl,
    fun n hn => ⟨shlIterations_of_le hn, shrIterations_of_le hn⟩, fun n hn => ⟨if_pos hn, if_pos hn⟩⟩
  · have hbits := log2_min_toNat_lt hmin
    rw [mulIterations_of_two_le_min hmin]
    refine ⟨rfl, hbits, fun hworst => ?_⟩
    have htop : 23 ≤ Nat.log2 (min a.toNat b.toNat) := (Nat.le_log2 (by omega)).2 hworst
    rw [show Nat.log2 (min a.toNat b.toNat) = 23 by omega]
  · have hpos : 0 < b.toNat := by omega
    refine ⟨Nat.log2 (a.toNat / b.toNat), divIterations_of_two_le a hb, log2_toNat_div_le_22 a hb, fun hlt => ?_,
      fun hle => ⟨mul_two_pow_log2_div_le hpos hle, fun i => le_log2_div_of_mul_two_pow_le hpos⟩⟩
    rw [Nat.div_eq_of_lt hlt, Nat.log2_zero]

/-- Settles O14: without `rst` the edge is refused, and with it the reset step leaves an idle block. -/
theorem nothingHoldsBeforeFirstReset : Obligations.NothingHoldsBeforeFirstReset :=
  fun _ hreset => ⟨step_eq_refused hreset, fun hrst => ⟨_, step_eq_resetStep hrst, rfl, rfl, rfl⟩⟩

end Sys2Proof.Machine

/-! The fault mark along the steps (U3). -/

namespace Sys2Proof.Machine

/-- U3: a step leaves the fault mark and raises no `err`, or it sets the mark; only the faulted completion does the
second. -/
theorem step_faultMark_cases {s t : State} (h : step s = .next t) :
    (t.faultMark = s.faultMark ∧ (t.err = true → s.err = true)) ∨ t.faultMark = true := by
  obtain ⟨-, rfl⟩ | ⟨-, -, -, rfl⟩ | ⟨-, -, rfl⟩ | ⟨-, rfl⟩ := step_next_cases h
  case inl => exact .inl (by simp)
  case inr.inl => exact .inl (by simp)
  case inr.inr.inl =>
    cases commandResult s.op s.a s.b with
    | ok y r => exact .inl (by simp)
    | fault c => exact .inr rfl
  case inr.inr.inr => exact .inl (by simp)

/-- Settles O32: no step clears the mark, and one that raises `err` is not of those that leave the mark. -/
theorem faultMarkIsNeverCleared : Obligations.FaultMarkIsNeverCleared := by
  intro s t hstep
  unfold State.noFaultRecorded
  obtain ⟨hkept, herr⟩ | hset := step_faultMark_cases hstep
  · refine ⟨fun hclear => hkept ▸ hclear, fun hbefore hafter => ?_⟩
    exact absurd (herr hafter) (by simp [hbefore])
  · simp [hset]

end Sys2Proof.Machine
